-- ==== Sys2Proof/Word.lean ====
section
/-! DEFINITION. The word types of the block: a 64-bit address or register value (R8, R15), a byte, the
32-bit instruction word (R8, R120), the 16-bit command word (R100) and a register number (R50). -/

namespace Sys2Proof

/-- A `u64`: an address, a program counter, a register value, a command operand (R15). -/
abbrev Word := BitVec 64

/-- One byte of memory or of a cache line's buffer (R21, R70). -/
abbrev Byte := BitVec 8

/-- A 32-bit instruction word (R8, R120). -/
abbrev IWord := BitVec 32

/-- A 16-bit command word `CW` (R100). -/
abbrev CWord := BitVec 16

/-- A register number, 5 bits (R50). -/
abbrev RegNum := BitVec 5

/-- A natural taken to 64 bits: what a read-out returns of an unbounded counter (R17). -/
def low64 (n : Nat) : Word := BitVec.ofNat 64 n

end Sys2Proof
end

