-- ==== Sys2Proof/Syntax.lean ====
section
/-! DEFINITION. The syntax of the block, whole: the enumerations of R113, the Instruction record the pipeline
carries (R33 to R35), the command packet (R100), and `Instr`, with one constructor for every row of
spec/opcode_table.json: the 30 commands of R106 and R107, the no-op word of R125 and the 21
instruction-word class rows. -/

namespace Sys2Proof

/-- Cache levels (R27), in the order of R113. -/
inductive Level
  | l1i | l1d | l2 | l3
deriving DecidableEq, Repr, Inhabited

/-- The four pipeline stages (R30), in the order of R113. -/
inductive StageId
  | f | d | e | w
deriving DecidableEq, Repr, Inhabited

/-- Format classes of an instruction word (R34, R113). -/
inductive FormatClass
  | memory | operate | branch | jump | floatOp | misc | invalid
deriving DecidableEq, Repr, Inhabited

/-- Execution-cost classes (R34, R113, R241). -/
inductive CostClass
  | trivial | moderate | heavy
deriving DecidableEq, Repr, Inhabited

/-- The access sizes of a load or store, in bytes (R8, R76). -/
inductive AccessSize
  | b1 | b2 | b4 | b8
deriving DecidableEq, Repr, Inhabited

/-- An Instruction record: the source's fields (R33), the decoded fields (R34) and the result fields (R35). -/
structure InstrRecord where
  raw : IWord
  pc : Word
  decoded : Bool
  executed : Bool
  valid : Bool
  hasException : Bool
  executionCount : Nat
  cycleCount : Nat
  cls : FormatClass
  opcode : BitVec 6
  ra : RegNum
  rb : RegNum
  rc : RegNum
  disp : Word
  func : BitVec 11
  isLiteral : Bool
  lit : BitVec 8
  isLoad : Bool
  isStore : Bool
  accessSize : AccessSize
  isConditional : Bool
  isUnconditional : Bool
  branchTarget : Word
  cost : CostClass
  loadValue : Word
  jumpTarget : Word
  condResult : Bool
  excVector : Nat
deriving DecidableEq, Repr, Inhabited

/-- Counters of a cache level, in the order of the `C.RDSTAT` selector (R26, R108). -/
inductive CacheCounter
  | hits | misses | evictions | writebacks
deriving DecidableEq, Repr

/-- What `S.RDSTAT` can read of a stage, in selector order (R109). -/
inductive StageSel
  | processed | totalCycles | stallCycles | queueDepth | backpressureEvents | maxInFlight | freePermits | life
deriving DecidableEq, Repr

/-- What `F.RDSTAT` can read, in selector order (R110). -/
inductive FetchSel
  | nextPC | fcHits | fcMisses | stallCycles
deriving DecidableEq, Repr

/-- What `X.RDSTAT` can read, in selector order (R110). -/
inductive ExecSel
  | pendingHeavyCount | executionExceptions | modeChanges | jitMisses | compilationTriggers
deriving DecidableEq, Repr

/-- What `W.RDSTAT` can read, in selector order (R110). -/
inductive WbSel
  | instructionsCommitted | commitFailures | branchesTaken | branchesNotTaken | branchRedirects | excLogLength
deriving DecidableEq, Repr

/-- What `K.RDSTATE` can read, in selector order (R110). -/
inductive CtrlSel
  | pstate | pendingFlush
deriving DecidableEq, Repr

/-- The second operand of an Operate word: a register, with the three bits above the literal flag that the
layout shows as 000 and no rule reads, or an 8-bit literal (R120). -/
inductive OperateOperand
  | reg (rb : RegNum) (sbz : BitVec 3)
  | lit (lit : BitVec 8)
deriving DecidableEq, Repr

/-- The payload `P` of a command packet (R100): a byte list, one Instruction record, or empty. -/
inductive Payload
  | empty
  | bytes (bs : List Byte)
  | record (r : InstrRecord)
deriving DecidableEq, Repr

/-- A command packet (R100). -/
structure Packet where
  cw : CWord
  a : Word
  b : Word
  payload : Payload
deriving DecidableEq, Repr

/-- One constructor for each row of spec/opcode_table.json. -/
inductive Instr
  -- cache unit (R106)
  | cRead (addr size : Word)
  | cWrite (addr size : Word) (payload : List Byte)
  | cIfetch (addr size : Word)
  | cFlushall
  | cInvrange (addr len : Word)
  | cValidate
  | cRdstat (level : Level) (counter : CacheCounter)
  -- stage unit (R107)
  | sInit (stage : StageId)
  | sStart (stage : StageId)
  | sSubmit (stage : StageId) (record : InstrRecord)
  | sStep (stage : StageId)
  | sAdjust (stage : StageId) (n : Word)
  | sShutdown (stage : StageId)
  | sFlush (stage : StageId)
  | sRdstat (stage : StageId) (sel : StageSel)
  -- Fetch unit
  | fRedirect (target : Word)
  | fFlushreq
  | fSetpc (pc : Word)
  | fRdstat (sel : FetchSel)
  -- Execute unit
  | xComplete (id : Word)
  | xRdstat (sel : ExecSel)
  -- Writeback unit
  | wRdstat (sel : WbSel)
  -- controller
  | kStart
  | kStop
  | kFlush
  | kException (vector pc : Word)
  | kTick
  | kRdstate (sel : CtrlSel)
  | kAdvance
  -- global
  | reset
  -- instruction words (R120); the class names are those of the table's default classOf
  | nopWord
  | misc00 (ra rb : RegNum) (func16 : BitVec 16)
  | invalid01 (body : BitVec 26)
  | invalid02 (body : BitVec 26)
  | invalid03 (body : BitVec 26)
  | invalid04 (body : BitVec 26)
  | invalid05 (body : BitVec 26)
  | invalid06 (body : BitVec 26)
  | invalid07 (body : BitVec 26)
  | memory08 (opc : BitVec 3) (ra rb : RegNum) (disp16 : BitVec 16)
  | operate10 (opc : BitVec 2) (ra : RegNum) (operand : OperateOperand) (func : BitVec 7) (rc : RegNum)
  | floatOp14 (opc : BitVec 2) (fa fb : RegNum) (func : BitVec 11) (fc : RegNum)
  | misc18 (ra rb : RegNum) (func16 : BitVec 16)
  | invalid19 (body : BitVec 26)
  | jump1A (ra rb : RegNum) (type : BitVec 2) (hint : BitVec 14)
  | invalid1B (body : BitVec 26)
  | operate1C (ra : RegNum) (operand : OperateOperand) (func : BitVec 7) (rc : RegNum)
  | invalid1D (body : BitVec 26)
  | invalid1E (body : BitVec 26)
  | invalid1F (body : BitVec 26)
  | memory20 (opc : BitVec 4) (ra rb : RegNum) (disp16 : BitVec 16)
  | branch30 (opc : BitVec 4) (ra : RegNum) (disp21 : BitVec 21)
deriving DecidableEq, Repr

end Sys2Proof
end

