-- ==== Sys2Proof/Config.lean ====
section
/-! DEFINITION. The configuration of the block (R8 to R14, collected in R344): every named parameter of the spec as a
field of plain data, and, as opaque constants with no body, the collaborators' functions and the draws
that no rule constrains (R16, R62, R63, R272; 92_eei_decisions.md section 9). -/

namespace Sys2Proof

/-- One value per cache level. -/
structure LevelMap (α : Type) where
  l1i : α
  l1d : α
  l2 : α
  l3 : α
deriving DecidableEq, Repr

/-- One value per pipeline stage. -/
structure StageMap (α : Type) where
  f : α
  d : α
  e : α
  w : α
deriving DecidableEq, Repr

/-- Replacement policy of a level (R9, R143). -/
inductive ReplPolicy
  | lru | random
deriving DecidableEq, Repr

/-- Write policy of a level: `writeBack` is the only value with rules; 1 is reserved (R113, R150). -/
inductive WritePolicy
  | writeBack | reserved
deriving DecidableEq, Repr

/-- How execution units reach data memory, `DATA_PATH` (R71). -/
inductive DataPath
  | hierarchy | memory
deriving DecidableEq, Repr

/-- What the Fetch stage's `readWord` is bound to, `FETCH_SOURCE` (R11, R206). -/
inductive FetchSource
  | hierarchy | memory
deriving DecidableEq, Repr

/-- What a stage does with a rejected forward; `drop` is the only value with rules (R178). -/
inductive ForwardPolicy
  | drop
deriving DecidableEq, Repr

/-- Which Execute stage is wired in, `EXEC_VARIANT` (R12, R240). -/
inductive ExecVariant
  | plain | hybrid
deriving DecidableEq, Repr

/-- What a Memory-class opcode does with memory (R227): not both a load and a store. -/
inductive MemKind
  | load | store | neither
deriving DecidableEq, Repr, Inhabited

/-- One entry of the `memInfo` table (R227). -/
structure MemInfo where
  kind : MemKind
  size : AccessSize
deriving DecidableEq, Repr, Inhabited

/-- One row of a `costClass` table: a row with no opcode or no function matches every one (R241). -/
structure CostRule where
  cls : FormatClass
  opcode : Option (BitVec 6)
  func : Option (BitVec 11)
  cost : CostClass
deriving DecidableEq, Repr

/-- Exception categories (R272), in the order of R113. -/
inductive ExcCategory
  | arithmetic | memory | privilege | default
deriving DecidableEq, Repr, Inhabited

/-- Which execution unit is wired in: any unit that keeps the contract of R242 (`collaborator`), or the
test unit XU1 of 93_implementation_defined.md G8, with the collaborator for the words XU1 says nothing of. -/
inductive UnitKind
  | collaborator | xu1
deriving DecidableEq, Repr

/-- The configuration: fixed before reset and written by no operation (10_state.md, opening). -/
structure Config where
  /-- `LINE_SIZE` (R9). -/
  lineSize : Nat
  /-- `SIZE[L]` (R9). -/
  size : LevelMap Nat
  /-- `ASSOC[L]` (R9). -/
  assoc : LevelMap Nat
  /-- `REPL[L]` (R9). -/
  repl : LevelMap ReplPolicy
  /-- `WPOL[L]` (R9). -/
  wpol : LevelMap WritePolicy
  /-- `TRACKED_LEVELS`, as membership (R151). -/
  tracked : LevelMap Bool
  /-- `DATA_PATH` (R71). -/
  dataPath : DataPath
  /-- `QUEUE_CAP[s]` (R10). -/
  queueCap : StageMap Nat
  /-- `MAXINFLIGHT_INIT[s]` (R10). -/
  maxInFlightInit : StageMap Nat
  /-- `FORWARD_POLICY` (R178). -/
  forwardPolicy : ForwardPolicy
  /-- `FC_LINES` (R11). -/
  fcLines : Nat
  /-- `FC_LINE_SIZE` (R11). -/
  fcLineSize : Nat
  /-- `PREFETCH_WINDOW` (R11). -/
  prefetchWindow : Nat
  /-- `FETCH_SOURCE` (R11). -/
  fetchSource : FetchSource
  /-- `RESET_PC` (R11). -/
  resetPC : Word
  /-- `EXEC_VARIANT` (R12). -/
  execVariant : ExecVariant
  /-- `PROFILING_THRESHOLD` (R12). -/
  profilingThreshold : Nat
  /-- `COMPILATION_THRESHOLD` (R12). -/
  compilationThreshold : Nat
  /-- `HEAVY_POOL_SIZE` (R12); no rule reads it (R246). -/
  heavyPoolSize : Nat
  /-- `classOf` (R123). -/
  classOf : Vector FormatClass 64
  /-- `memInfo` (R227). -/
  memInfo : Vector MemInfo 64
  /-- `uncondBranch` (R227). -/
  uncondBranch : Vector Bool 64
  /-- `floatDest` (R268). -/
  floatDest : Vector Bool 64
  /-- `costClass` (R241): the first row that matches decides; `Config.ok` holds it to the examples of that rule. -/
  costRules : List CostRule
  /-- `costClass` of what no row matches. -/
  costDefault : CostClass
  /-- The execution unit (R242). -/
  unit : UnitKind
  /-- `EXC_LOG_CAP` (R13). -/
  excLogCap : Nat
  /-- `EXC_LOG_MAX_AGE` (R13). -/
  excLogMaxAge : Nat
  /-- `GROW_NUM` (R14). -/
  growNum : Nat
  /-- `GROW_DEN` (R14). -/
  growDen : Nat
  /-- `LIMIT_CAP` (R14). -/
  limitCap : Nat
  /-- `SHRINK_NUM` (R14). -/
  shrinkNum : Nat
  /-- `SHRINK_DEN` (R14). -/
  shrinkDen : Nat
  /-- `LIMIT_FLOOR` (R14). -/
  limitFloor : Nat
  /-- `ROLLING_WINDOW` (R14). -/
  rollingWindow : Nat
  /-- `EXC_FREQ_THRESHOLD` (R14). -/
  excFreqThreshold : Nat
  /-- `EXC_WINDOW` (R14). -/
  excWindow : Nat
deriving DecidableEq, Repr

/-- What a completed execution leaves for Writeback (R35, R242). -/
structure ExecResult where
  loadValue : Word
  jumpTarget : Word
  condResult : Bool
  hasException : Bool
  excVector : Nat
deriving DecidableEq, Repr, Inhabited

/-- What the execution-unit collaborator sees (R242): the instruction, the two register banks as the RegisterFile reads
them out (R244), the answers its data accesses have had so far (a read's bytes, nothing more for a write that was
taken, none for either where it was refused) and how many actions it has taken. -/
structure UnitView where
  instr : InstrRecord
  ints : Vector Word 32
  floats : Vector Word 32
  answers : List (Option (List Byte))
  actions : Nat

/-- One action of the execution-unit collaborator (R242). -/
inductive UnitAction
  | setInt (r : RegNum) (v : Word)
  | setFloat (r : RegNum) (v : Word)
  | readMem (addr : Word)
  | writeMem (addr : Word) (bytes : List Byte)
  | done (r : ExecResult)
  | fault
deriving Inhabited

/-- What the execution-unit collaborator does next (R63, R242): open, never evaluated. Notes: entry 4. -/
opaque Config.unitAction : UnitView → UnitAction

/-- A bound on the actions of one `execUnit` call: open. Notes: entry 4. -/
opaque Config.unitActionBound : InstrRecord → Nat

/-- Whether the collaborator faults on a load or store, with no constraint on what it does to registers and memory first
(R249): open. Notes: entry 4. -/
opaque Config.unitFaults : UnitView → Bool

/-- The bytes a store stores, as its opcode demands (R242): open, cut or padded to the access size. -/
opaque Config.unitStoreBytes : UnitView → List Byte

/-- The result fields of the no-op word's `Done`, of which R245 fixes `hasException` alone: open. Notes: entry 26. -/
opaque Config.nopResult : InstrRecord → ExecResult

/-- `getCycleLatency(instr)`, a `u32` (R63, R243), of the record as it stands where `Complete` asks (R242): open. -/
opaque Config.cycleLatency : InstrRecord → BitVec 32

/-- `vectorCategory` (R272): open. -/
opaque Config.vectorCategory : Nat → ExcCategory

/-- The draws of the pipeline (R16), by position, once the supplied ones are used up: open. Notes: entry 3. -/
opaque Config.freeDraw : Nat → Nat

/-- The draws of the Random victim (R143), by position, once the supplied ones are used up: open. -/
opaque Config.freeVictim : Nat → Nat

end Sys2Proof
end

