-- ==== Sys2Proof/WellFormed.lean ====
section
/-! DEFINITION. When an instruction term is well formed: the operands the encoding admits that the types do
not already enforce. -/

namespace Sys2Proof

/-- The Operate operands that spell the no-op word `0x47FF041F`, which is a row of its own (R125). -/
def Instr.spellsNop (opc : BitVec 2) (ra : RegNum) (operand : OperateOperand) (func : BitVec 7)
    (rc : RegNum) : Bool :=
  opc == 1 && ra == 31 && operand == .reg 31 0 && func == 0x20 && rc == 31

/-- Well-formedness: a `C.WRITE` payload has at most `LINE_SIZE` bytes (R100), and the no-op word is written
as `nopWord` (R125). Every other constructor's operands are exactly what its fields hold. -/
def Instr.wellFormed (cfg : Config) : Instr → Bool
  | .cWrite _ _ payload => payload.length ≤ cfg.lineSize
  | .operate10 opc ra operand func rc => !Instr.spellsNop opc ra operand func rc
  | .cRead .. | .cIfetch .. | .cFlushall | .cInvrange .. | .cValidate | .cRdstat .. => true
  | .sInit .. | .sStart .. | .sSubmit .. | .sStep .. | .sAdjust .. | .sShutdown .. | .sFlush ..
  | .sRdstat .. => true
  | .fRedirect .. | .fFlushreq | .fSetpc .. | .fRdstat .. => true
  | .xComplete .. | .xRdstat .. | .wRdstat .. => true
  | .kStart | .kStop | .kFlush | .kException .. | .kTick | .kRdstate .. | .kAdvance | .reset => true
  | .nopWord | .misc00 .. | .invalid01 .. | .invalid02 .. | .invalid03 .. | .invalid04 ..
  | .invalid05 .. | .invalid06 .. | .invalid07 .. | .memory08 .. | .floatOp14 .. | .misc18 ..
  | .invalid19 .. | .jump1A .. | .invalid1B .. | .operate1C .. | .invalid1D .. | .invalid1E ..
  | .invalid1F .. | .memory20 .. | .branch30 .. => true

end Sys2Proof
end

