-- ==== Sys2Proof/Decode.lean ====
section
/-! DEFINITION. The decoder, total on every command packet and every instruction word and rejecting by name
(R101, R102, R106 to R111, R120), and after it the encoder, written from the same tables. -/

namespace Sys2Proof

/-- Why a command packet is not a command (R111). The block answers each with `ERR_ILLEGAL`. -/
inductive Reject
  /-- `unit` 6 to 14 (R101). -/
  | reservedUnit
  /-- an `op` its unit does not define (R106, R107). -/
  | reservedOp
  /-- a `mod` bit the command does not define is not zero, or a reserved access type (R102, R106). -/
  | reservedMod
  /-- a reserved read-out selector (R110). -/
  | reservedSelector
  /-- `S.SUBMIT` with no Instruction record in the payload (R100, R102; notes: entry 8). -/
  | missingRecord
deriving DecidableEq, Repr

/-- Cache level numbers (R108, R113). -/
def Level.ofCode : BitVec 2 → Level
  | 0 => .l1i
  | 1 => .l1d
  | 2 => .l2
  | 3 => .l3

/-- Stage numbers (R102, R113). -/
def StageId.ofCode : BitVec 2 → StageId
  | 0 => .f
  | 1 => .d
  | 2 => .e
  | 3 => .w

/-- `C.RDSTAT` counter selector (R108). -/
def CacheCounter.ofCode : BitVec 2 → CacheCounter
  | 0 => .hits
  | 1 => .misses
  | 2 => .evictions
  | 3 => .writebacks

/-- `S.RDSTAT` selector (R109). -/
def StageSel.ofCode : BitVec 3 → StageSel
  | 0 => .processed
  | 1 => .totalCycles
  | 2 => .stallCycles
  | 3 => .queueDepth
  | 4 => .backpressureEvents
  | 5 => .maxInFlight
  | 6 => .freePermits
  | 7 => .life

/-- `F.RDSTAT` selector (R110). -/
def FetchSel.ofCode : BitVec 2 → FetchSel
  | 0 => .nextPC
  | 1 => .fcHits
  | 2 => .fcMisses
  | 3 => .stallCycles

/-- `X.RDSTAT` selector; 5 to 7 are reserved (R110). -/
def ExecSel.ofCode : BitVec 3 → Except Reject ExecSel
  | 0 => .ok .pendingHeavyCount
  | 1 => .ok .executionExceptions
  | 2 => .ok .modeChanges
  | 3 => .ok .jitMisses
  | 4 => .ok .compilationTriggers
  | _ => .error .reservedSelector

/-- `W.RDSTAT` selector; 6 and 7 are reserved (R110). -/
def WbSel.ofCode : BitVec 3 → Except Reject WbSel
  | 0 => .ok .instructionsCommitted
  | 1 => .ok .commitFailures
  | 2 => .ok .branchesTaken
  | 3 => .ok .branchesNotTaken
  | 4 => .ok .branchRedirects
  | 5 => .ok .excLogLength
  | _ => .error .reservedSelector

/-- `K.RDSTATE` selector (R110). -/
def CtrlSel.ofCode : BitVec 1 → CtrlSel
  | 0 => .pstate
  | 1 => .pendingFlush

/-- A command whose `mod` is `m` exactly (R102: every undefined `mod` bit is 0). -/
def whenMod (m md : BitVec 8) (i : Instr) : Except Reject Instr :=
  if md = m then .ok i else .error .reservedMod

/-- A stage-unit command: `mod[1:0]` is the stage and `mod[7:2]` is 0 (R102, R107). -/
def whenStage (md : BitVec 8) (i : StageId → Instr) : Except Reject Instr :=
  if md.extractLsb' 2 6 = 0 then .ok (i (StageId.ofCode (md.extractLsb' 0 2))) else .error .reservedMod

/-- Cache-unit access commands: the access type is in `mod[1:0]`; type 3 is reserved (R106). -/
def decodeAccess (p : Packet) (md : BitVec 8) : Except Reject Instr :=
  match md with
  | 0 => .ok (.cRead p.a p.b)
  | 1 => .ok (.cWrite p.a p.b (match p.payload with
      | .bytes bs => bs
      | .empty => []
      | .record _ => []))
  | 2 => .ok (.cIfetch p.a p.b)
  | _ => .error .reservedMod

/-- `S.SUBMIT`: the payload is one Instruction record (R100, R102). -/
def decodeSubmit (p : Packet) (md : BitVec 8) : Except Reject Instr :=
  match p.payload with
  | .record r => whenStage md (fun s => .sSubmit s r)
  | .empty => .error .missingRecord
  | .bytes _ => .error .missingRecord

/-- Cache unit, `unit = 0` (R106). -/
def decodeCacheUnit (p : Packet) (op : BitVec 4) (md : BitVec 8) : Except Reject Instr :=
  match op with
  | 0 => decodeAccess p md
  | 1 => whenMod 0 md .cFlushall
  | 2 => whenMod 0 md (.cInvrange p.a p.b)
  | 3 => whenMod 0 md .cValidate
  | 4 =>
    if md.extractLsb' 4 4 = 0 then
      .ok (.cRdstat (Level.ofCode (md.extractLsb' 0 2)) (CacheCounter.ofCode (md.extractLsb' 2 2)))
    else .error .reservedMod
  | _ => .error .reservedOp

/-- Stage unit, `unit = 1` (R107, R109). -/
def decodeStageUnit (p : Packet) (op : BitVec 4) (md : BitVec 8) : Except Reject Instr :=
  match op with
  | 0 => whenStage md .sInit
  | 1 => whenStage md .sStart
  | 2 => decodeSubmit p md
  | 3 => whenStage md .sStep
  | 4 => whenStage md (fun s => .sAdjust s p.a)
  | 5 => whenStage md .sShutdown
  | 6 => whenStage md .sFlush
  | 7 =>
    if md.extractLsb' 5 3 = 0 then
      .ok (.sRdstat (StageId.ofCode (md.extractLsb' 0 2)) (StageSel.ofCode (md.extractLsb' 2 3)))
    else .error .reservedMod
  | _ => .error .reservedOp

/-- Fetch unit, `unit = 2` (R107, R110). -/
def decodeFetchUnit (p : Packet) (op : BitVec 4) (md : BitVec 8) : Except Reject Instr :=
  match op with
  | 0 => whenMod 0 md (.fRedirect p.a)
  | 1 => whenMod 0 md .fFlushreq
  | 2 => whenMod 0 md (.fSetpc p.a)
  | 3 =>
    if md.extractLsb' 2 6 = 0 then .ok (.fRdstat (FetchSel.ofCode (md.extractLsb' 0 2)))
    else .error .reservedMod
  | _ => .error .reservedOp

/-- Execute unit, `unit = 3` (R107, R110). -/
def decodeExecUnit (p : Packet) (op : BitVec 4) (md : BitVec 8) : Except Reject Instr :=
  match op with
  | 0 => whenMod 0 md (.xComplete p.a)
  | 1 =>
    if md.extractLsb' 3 5 = 0 then (ExecSel.ofCode (md.extractLsb' 0 3)).map .xRdstat
    else .error .reservedMod
  | _ => .error .reservedOp

/-- Writeback unit, `unit = 4` (R107, R110). -/
def decodeWbUnit (op : BitVec 4) (md : BitVec 8) : Except Reject Instr :=
  match op with
  | 0 =>
    if md.extractLsb' 3 5 = 0 then (WbSel.ofCode (md.extractLsb' 0 3)).map .wRdstat
    else .error .reservedMod
  | _ => .error .reservedOp

/-- Controller, `unit = 5` (R107, R110). -/
def decodeCtrlUnit (p : Packet) (op : BitVec 4) (md : BitVec 8) : Except Reject Instr :=
  match op with
  | 0 => whenMod 0 md .kStart
  | 1 => whenMod 0 md .kStop
  | 2 => whenMod 0 md .kFlush
  | 3 => whenMod 0 md (.kException p.a p.b)
  | 4 => whenMod 0 md .kTick
  | 5 =>
    if md.extractLsb' 1 7 = 0 then .ok (.kRdstate (CtrlSel.ofCode (md.extractLsb' 0 1)))
    else .error .reservedMod
  | 7 => whenMod 0 md .kAdvance
  | _ => .error .reservedOp

/-- Decode a command packet: `unit = CW[15:12]`, `op = CW[11:8]`, `mod = CW[7:0]` (R101). -/
def decodePacket (p : Packet) : Except Reject Instr :=
  let op : BitVec 4 := p.cw.extractLsb' 8 4
  let md : BitVec 8 := p.cw.extractLsb' 0 8
  match (p.cw.extractLsb' 12 4 : BitVec 4) with
  | 0 => decodeCacheUnit p op md
  | 1 => decodeStageUnit p op md
  | 2 => decodeFetchUnit p op md
  | 3 => decodeExecUnit p op md
  | 4 => decodeWbUnit op md
  | 5 => decodeCtrlUnit p op md
  | 15 => if op = 0 then whenMod 0 md .reset else .error .reservedOp
  | _ => .error .reservedUnit

/-- The architectural no-op word (R125). -/
def nopCode : IWord := 0x47FF041F

/-- The second operand of an Operate word: `isLiteral = raw[12]`, `lit = raw[20:13]`, else `rb = raw[20:16]` (R120). -/
def operandOf (w : IWord) : OperateOperand :=
  if w.getLsbD 12 then .lit (w.extractLsb' 13 8) else .reg (w.extractLsb' 16 5) (w.extractLsb' 13 3)

/-- Decode an instruction word to its row of the opcode table (R120, and the table's default classes). Every
word is an instruction: a reserved opcode is a row too, forwarded and not dropped (R124). -/
def decodeWord (w : IWord) : Instr :=
  let ra : RegNum := w.extractLsb' 21 5
  let rb : RegNum := w.extractLsb' 16 5
  let rc : RegNum := w.extractLsb' 0 5
  let half : BitVec 16 := w.extractLsb' 0 16
  let body : BitVec 26 := w.extractLsb' 0 26
  if w = nopCode then .nopWord
  else match (w.extractLsb' 26 6 : BitVec 6) with
    | 0x00 => .misc00 ra rb half
    | 0x01 => .invalid01 body
    | 0x02 => .invalid02 body
    | 0x03 => .invalid03 body
    | 0x04 => .invalid04 body
    | 0x05 => .invalid05 body
    | 0x06 => .invalid06 body
    | 0x07 => .invalid07 body
    | 0x18 => .misc18 ra rb half
    | 0x19 => .invalid19 body
    | 0x1A => .jump1A ra rb (w.extractLsb' 14 2) (w.extractLsb' 0 14)
    | 0x1B => .invalid1B body
    | 0x1C => .operate1C ra (operandOf w) (w.extractLsb' 5 7) rc
    | 0x1D => .invalid1D body
    | 0x1E => .invalid1E body
    | 0x1F => .invalid1F body
    | op =>
      if op < 0x10 then .memory08 (w.extractLsb' 26 3) ra rb half
      else if op < 0x14 then .operate10 (w.extractLsb' 26 2) ra (operandOf w) (w.extractLsb' 5 7) rc
      else if op < 0x18 then .floatOp14 (w.extractLsb' 26 2) ra rb (w.extractLsb' 5 11) rc
      else if op < 0x30 then .memory20 (w.extractLsb' 26 4) ra rb half
      else .branch30 (w.extractLsb' 26 4) ra (w.extractLsb' 0 21)

/-- What an instruction is written as: a command packet, or a 32-bit instruction word. -/
inductive Encoding
  | packet (p : Packet)
  | word (w : IWord)
deriving DecidableEq, Repr

/-- Decode either form. -/
def decode : Encoding → Except Reject Instr
  | .packet p => decodePacket p
  | .word w => .ok (decodeWord w)

/-! ## The encoder -/

/-- Level numbers (R113). -/
def Level.code : Level → BitVec 2
  | .l1i => 0
  | .l1d => 1
  | .l2 => 2
  | .l3 => 3

/-- Stage numbers (R113). -/
def StageId.code : StageId → BitVec 2
  | .f => 0
  | .d => 1
  | .e => 2
  | .w => 3

/-- `C.RDSTAT` counter selector (R108). -/
def CacheCounter.code : CacheCounter → BitVec 2
  | .hits => 0
  | .misses => 1
  | .evictions => 2
  | .writebacks => 3

/-- `S.RDSTAT` selector (R109). -/
def StageSel.code : StageSel → BitVec 3
  | .processed => 0
  | .totalCycles => 1
  | .stallCycles => 2
  | .queueDepth => 3
  | .backpressureEvents => 4
  | .maxInFlight => 5
  | .freePermits => 6
  | .life => 7

/-- `F.RDSTAT` selector (R110). -/
def FetchSel.code : FetchSel → BitVec 2
  | .nextPC => 0
  | .fcHits => 1
  | .fcMisses => 2
  | .stallCycles => 3

/-- `X.RDSTAT` selector (R110). -/
def ExecSel.code : ExecSel → BitVec 3
  | .pendingHeavyCount => 0
  | .executionExceptions => 1
  | .modeChanges => 2
  | .jitMisses => 3
  | .compilationTriggers => 4

/-- `W.RDSTAT` selector (R110). -/
def WbSel.code : WbSel → BitVec 3
  | .instructionsCommitted => 0
  | .commitFailures => 1
  | .branchesTaken => 2
  | .branchesNotTaken => 3
  | .branchRedirects => 4
  | .excLogLength => 5

/-- `K.RDSTATE` selector (R110). -/
def CtrlSel.code : CtrlSel → BitVec 1
  | .pstate => 0
  | .pendingFlush => 1

/-- A packet with no payload; operands a command does not use are 0. -/
def plainPacket (cw : CWord) (a b : Word) : Packet := ⟨cw, a, b, .empty⟩

/-- A stage-unit command word: `CW[15:12] = 1`, `CW[11:8] = op`, `CW[1:0]` the stage (R107). -/
def stageCW (op : BitVec 4) (s : StageId) : CWord := (1 : BitVec 4) ++ op ++ (0 : BitVec 6) ++ s.code

/-- A field of an instruction word, placed with its least significant bit at a bit number (R120). -/
def place {n : Nat} (x : BitVec n) (lo : Nat) : IWord := x.setWidth 32 <<< lo

/-- The opcode of a row that covers several: the row's first opcode with the low bits the instruction gives. -/
def opcodeIn {n : Nat} (base : BitVec 6) (opc : BitVec n) : BitVec 6 := base ||| opc.setWidth 6

/-- Bits 20:12 of an Operate word (R120). -/
def operandBits : OperateOperand → IWord
  | .reg rb sbz => place rb 16 ||| place sbz 13
  | .lit lit => place lit 13 ||| place (1 : BitVec 1) 12

/-- The word of an Operate instruction (R120). -/
def operateWord (opcode : BitVec 6) (ra : RegNum) (operand : OperateOperand) (func : BitVec 7) (rc : RegNum) :
    IWord :=
  place opcode 26 ||| place ra 21 ||| operandBits operand ||| place func 5 ||| place rc 0

/-- The word of a FloatOp instruction (R120). -/
def floatWord (opcode : BitVec 6) (fa fb : RegNum) (func : BitVec 11) (fc : RegNum) : IWord :=
  place opcode 26 ||| place fa 21 ||| place fb 16 ||| place func 5 ||| place fc 0

/-- The word of a Memory or Misc instruction (R120). -/
def halfWord (opcode : BitVec 6) (ra rb : RegNum) (half : BitVec 16) : IWord :=
  place opcode 26 ||| place ra 21 ||| place rb 16 ||| place half 0

/-- The word of a Jump instruction (R120). -/
def jumpWord (opcode : BitVec 6) (ra rb : RegNum) (type : BitVec 2) (hint : BitVec 14) : IWord :=
  place opcode 26 ||| place ra 21 ||| place rb 16 ||| place type 14 ||| place hint 0

/-- The word of a Branch instruction (R120). -/
def branchWord (opcode : BitVec 6) (ra : RegNum) (disp : BitVec 21) : IWord :=
  place opcode 26 ||| place ra 21 ||| place disp 0

/-- The word of a reserved opcode (R124). -/
def bodyWord (opcode : BitVec 6) (body : BitVec 26) : IWord := place opcode 26 ||| place body 0

/-- The encoding of an instruction (R106, R107, R120). -/
def encode : Instr → Encoding
  | .cRead a n => .packet (plainPacket 0x0000 a n)
  | .cWrite a n bs => .packet ⟨0x0001, a, n, .bytes bs⟩
  | .cIfetch a n => .packet (plainPacket 0x0002 a n)
  | .cFlushall => .packet (plainPacket 0x0100 0 0)
  | .cInvrange a n => .packet (plainPacket 0x0200 a n)
  | .cValidate => .packet (plainPacket 0x0300 0 0)
  | .cRdstat l c => .packet (plainPacket ((0x040 : BitVec 12) ++ c.code ++ l.code) 0 0)
  | .sInit s => .packet (plainPacket (stageCW 0 s) 0 0)
  | .sStart s => .packet (plainPacket (stageCW 1 s) 0 0)
  | .sSubmit s r => .packet ⟨stageCW 2 s, 0, 0, .record r⟩
  | .sStep s => .packet (plainPacket (stageCW 3 s) 0 0)
  | .sAdjust s n => .packet (plainPacket (stageCW 4 s) n 0)
  | .sShutdown s => .packet (plainPacket (stageCW 5 s) 0 0)
  | .sFlush s => .packet (plainPacket (stageCW 6 s) 0 0)
  | .sRdstat s sel => .packet (plainPacket ((0xB8 : BitVec 11) ++ sel.code ++ s.code) 0 0)
  | .fRedirect t => .packet (plainPacket 0x2000 t 0)
  | .fFlushreq => .packet (plainPacket 0x2100 0 0)
  | .fSetpc a => .packet (plainPacket 0x2200 a 0)
  | .fRdstat sel => .packet (plainPacket ((0x8C0 : BitVec 14) ++ sel.code) 0 0)
  | .xComplete id => .packet (plainPacket 0x3000 id 0)
  | .xRdstat sel => .packet (plainPacket ((0x620 : BitVec 13) ++ sel.code) 0 0)
  | .wRdstat sel => .packet (plainPacket ((0x800 : BitVec 13) ++ sel.code) 0 0)
  | .kStart => .packet (plainPacket 0x5000 0 0)
  | .kStop => .packet (plainPacket 0x5100 0 0)
  | .kFlush => .packet (plainPacket 0x5200 0 0)
  | .kException v pc => .packet (plainPacket 0x5300 v pc)
  | .kTick => .packet (plainPacket 0x5400 0 0)
  | .kRdstate sel => .packet (plainPacket ((0x2A80 : BitVec 15) ++ sel.code) 0 0)
  | .kAdvance => .packet (plainPacket 0x5700 0 0)
  | .reset => .packet (plainPacket 0xF000 0 0)
  | .nopWord => .word nopCode
  | .misc00 ra rb half => .word (halfWord 0x00 ra rb half)
  | .invalid01 body => .word (bodyWord 0x01 body)
  | .invalid02 body => .word (bodyWord 0x02 body)
  | .invalid03 body => .word (bodyWord 0x03 body)
  | .invalid04 body => .word (bodyWord 0x04 body)
  | .invalid05 body => .word (bodyWord 0x05 body)
  | .invalid06 body => .word (bodyWord 0x06 body)
  | .invalid07 body => .word (bodyWord 0x07 body)
  | .memory08 opc ra rb half => .word (halfWord (opcodeIn 0x08 opc) ra rb half)
  | .operate10 opc ra operand func rc => .word (operateWord (opcodeIn 0x10 opc) ra operand func rc)
  | .floatOp14 opc fa fb func fc => .word (floatWord (opcodeIn 0x14 opc) fa fb func fc)
  | .misc18 ra rb half => .word (halfWord 0x18 ra rb half)
  | .invalid19 body => .word (bodyWord 0x19 body)
  | .jump1A ra rb type hint => .word (jumpWord 0x1A ra rb type hint)
  | .invalid1B body => .word (bodyWord 0x1B body)
  | .operate1C ra operand func rc => .word (operateWord 0x1C ra operand func rc)
  | .invalid1D body => .word (bodyWord 0x1D body)
  | .invalid1E body => .word (bodyWord 0x1E body)
  | .invalid1F body => .word (bodyWord 0x1F body)
  | .memory20 opc ra rb half => .word (halfWord (opcodeIn 0x20 opc) ra rb half)
  | .branch30 opc ra disp => .word (branchWord (opcodeIn 0x30 opc) ra disp)

/-! ## Pseudo-commands (R128) -/

/-- The spec's pseudo-commands (R128). -/
inductive Pseudo
  | cInvline (a : Word)
  | cInvall
  | kRun
  | kHalt
deriving DecidableEq, Repr

/-- The expansion of a pseudo-command (R128). -/
def Pseudo.expand : Pseudo → List Instr
  | .cInvline a => [.cInvrange a 1]
  | .cInvall => [.cInvrange 0 0xFFFFFFFFFFFFFFFF]
  | .kRun => [.kStart, .kAdvance]
  | .kHalt => [.kStop, .kAdvance]

/-! ## Table words -/

/-- The Instruction record whose every bit is 0 (an `S.SUBMIT` operand of zeros). -/
def InstrRecord.zero : InstrRecord :=
  { raw := 0, pc := 0, decoded := false, executed := false, valid := false, hasException := false,
    executionCount := 0, cycleCount := 0, cls := .memory, opcode := 0, ra := 0, rb := 0, rc := 0,
    disp := 0, func := 0, isLiteral := false, lit := 0, isLoad := false, isStore := false,
    accessSize := .b8, isConditional := false, isUnconditional := false, branchTarget := 0,
    cost := .trivial, loadValue := 0, jumpTarget := 0, condResult := false, excVector := 0 }

/-- Whether a command word is one of `S.SUBMIT`'s, whose payload is a record (R107). -/
def isSubmitCW (cw : CWord) : Bool := cw.extractLsb' 2 14 == 0x480

/-- The packet whose bits are `n`: the command word lowest, then `A`, then `B`; the payload, which the table
gives no bits, is all zeros: an empty byte list, or a record of zeros for `S.SUBMIT`. -/
def packetOfBits (n : Nat) : Packet :=
  let cw : CWord := BitVec.ofNat 16 n
  { cw := cw, a := BitVec.ofNat 64 (n >>> 16), b := BitVec.ofNat 64 (n >>> 80),
    payload := if isSubmitCW cw then .record InstrRecord.zero else .empty }

/-- Whether a row of `nbits` bits is an instruction word (32 bits) and not a command (16 bits). -/
def isWordRow (nbits : Nat) : Bool := nbits == 32

/-- The instruction the decoder reads from an instruction whose bits are `w`, numbered as
spec/opcode_table.json numbers them. -/
def decodeTableWord (nbits w : Nat) : Option Instr :=
  if isWordRow nbits then some (decodeWord (BitVec.ofNat 32 w))
  else (decodePacket (packetOfBits w)).toOption

end Sys2Proof
end

