-- ==== Sys2Proof/Machine/Types.lean ====
section
/-! DEFINITION. The types of the machine's parts (10_state.md): cache lines, sets and levels, stage records, the
fetch cache, the tier table, the exception log, the controller, events and responses. -/

namespace Sys2Proof.Machine

/-- MESI line states (R21, R112). -/
inductive LineState
  | invalid | shared | exclusive | modified
deriving DecidableEq, Repr, Inhabited

/-- A CacheLine (R21). -/
structure CacheLine where
  tag : Word
  valid : Bool
  dirty : Bool
  state : LineState
  lastAccess : Nat
  data : List Byte
deriving DecidableEq, Repr, Inhabited

/-- A CacheSet (R23). -/
structure CacheSet where
  ways : List CacheLine
  accessCounter : Nat
deriving DecidableEq, Repr, Inhabited

/-- A CacheLevel: its sets and its four counters (R26); its geometry and policies are configuration (R24, R25). -/
structure CacheLevel where
  sets : List CacheSet
  hits : Nat
  misses : Nat
  evictions : Nat
  writebacks : Nat
deriving DecidableEq, Repr, Inhabited

/-- Main memory: the bytes that differ from what an unlisted address reads as, addresses strictly rising. -/
abbrev Memory := List Host.Cell

/-- A stream of draws (R16): the values supplied from outside, then open ones; `count` is the next position. -/
structure Draws where
  given : List Nat
  count : Nat
deriving DecidableEq, Repr

/-- The cache hierarchy (R27) over main memory (R60), with the Random victim's draws (R143). -/
structure MemSys where
  caches : LevelMap CacheLevel
  mem : Memory
  victims : Draws
deriving DecidableEq, Repr

/-- Stage lifecycle (R30, R170). -/
inductive Life
  | stopped | ready | running
deriving DecidableEq, Repr, Inhabited

/-- Per-stage statistics (R32). -/
structure Stats where
  processed : Nat
  totalCycles : Nat
  stallCycles : Nat
  queueDepth : Nat
  backpressureEvents : Nat
deriving DecidableEq, Repr, Inhabited

/-- A PipelineStage record (R30 to R32). For Fetch, `flushFlag` is `flushRequested` (R36, R188). -/
structure Stage where
  life : Life
  queue : List InstrRecord
  flushFlag : Bool
  maxInFlight : Nat
  freePermits : Nat
  stats : Stats
deriving DecidableEq, Repr, Inhabited

/-- One line of the fetch cache (R37). -/
structure FcEntry where
  valid : Bool
  tag : Word
  wordValid : List Bool
  words : List IWord
deriving DecidableEq, Repr, Inhabited

/-- The Fetch stage's private state (R36). -/
structure FetchState where
  nextPC : Word
  branchTarget : Option Word
  fc : List FcEntry
  fcHits : Nat
  fcMisses : Nat
deriving DecidableEq, Repr

/-- ExecutionMode of a PC (R41, R113). -/
inductive ExecMode
  | interpret | profile | compiled
deriving DecidableEq, Repr, Inhabited

/-- One record of the tier table (R41). -/
structure TierEntry where
  count : Nat
  mode : Option ExecMode
  compileRequested : Bool
deriving DecidableEq, Repr, Inhabited

/-- The Execute stage's private state (R40 to R42). `tier` lists the PCs visited, rising. -/
structure ExecState where
  pendingHeavy : List (Nat × InstrRecord)
  heavySeq : Nat
  executionExceptions : Nat
  tier : List (Nat × TierEntry)
  modeChanges : Nat
  jitMisses : Nat
  compilationTriggers : Nat
deriving DecidableEq, Repr

/-- One entry of the recent-exception log (R45). -/
structure ExcEntry where
  vector : Nat
  pc : Word
  category : ExcCategory
  stamp : Nat
deriving DecidableEq, Repr

/-- The Writeback stage's private state (R44, R45). -/
structure WbState where
  instructionsCommitted : Nat
  commitFailures : Nat
  branchesTaken : Nat
  branchesNotTaken : Nat
  branchRedirects : Nat
  excLog : List ExcEntry
  excSeq : Nat
deriving DecidableEq, Repr

/-- PipelineState of the controller (R48, R113). -/
inductive PState
  | stopped | starting | running | stopping | flushing | exception
deriving DecidableEq, Repr, Inhabited

/-- The controller (R48, R49). -/
structure CtrlState where
  pstate : PState
  pendingFlush : Nat
  recovering : Bool
  utilSamples : StageMap (List Rat)
  tick : Nat
  excTicks : List Nat
deriving DecidableEq, Repr

/-- Events the block publishes (R58, R334). -/
inductive Event
  | stageStarted (s : StageId)
  | stageStopped (s : StageId)
  | stageStalled (s : StageId)
  | backpressure (s : StageId)
  | instructionCommitted (pc : Word)
  | branchResolved (pc : Word) (taken : Bool) (target : Word)
  | exceptionRaised (vector : Nat) (pc : Word)
  | bottleneckDetected (s : StageId)
  | performanceSnapshot (f d e w : Stats)
  | executionException (pc : Word)
  | modeChanged (pc : Word) (old new : ExecMode)
  | compilationRequested (pc : Word)
deriving DecidableEq, Repr

/-- Response status codes (R105). -/
inductive Status
  | ok | rejected | errIllegal | errState | errSpan | errAlign | errRange
deriving DecidableEq, Repr, Inhabited

/-- A response packet (R103). -/
structure Response where
  status : Status
  r : Word
  q : List Byte
deriving DecidableEq, Repr, Inhabited

/-- The error classes of R311, and StageDrop (R312). -/
inductive ErrorClass
  | decodeInvalid | executionFailure | commitFailure | pipelineException | backpressure | stageDrop
deriving DecidableEq, Repr

/-- An access to a level of the chain or to memory (R138). -/
inductive Access
  | read (addr : Word) (n : Nat)
  | write (addr : Word) (bytes : List Byte)
deriving DecidableEq, Repr

/-- What an execution unit answers (R242). -/
inductive UnitOutcome
  | done (r : ExecResult)
  | fault
deriving DecidableEq, Repr

/-- What a stage's `process` function returns (R175, R186). -/
inductive ProcessResult
  | output (r : InstrRecord)
  | noOutput
  | threw
deriving DecidableEq, Repr

end Sys2Proof.Machine
end

