-- ==== Sys2Proof/Machine/Geometry.lean ====
section
/-! DEFINITION. Per-level and per-stage lookup, the cache geometry with its address arithmetic (R24, R131 to R133), and
the constraints on a configuration (R344). -/

namespace Sys2Proof

/-- The entry of a level. -/
def LevelMap.get {α : Type} (m : LevelMap α) : Level → α
  | .l1i => m.l1i
  | .l1d => m.l1d
  | .l2 => m.l2
  | .l3 => m.l3

/-- Replace the entry of a level. -/
def LevelMap.set {α : Type} (m : LevelMap α) (l : Level) (v : α) : LevelMap α :=
  match l with
  | .l1i => { m with l1i := v }
  | .l1d => { m with l1d := v }
  | .l2 => { m with l2 := v }
  | .l3 => { m with l3 := v }

/-- The entry of a stage. -/
def StageMap.get {α : Type} (m : StageMap α) : StageId → α
  | .f => m.f
  | .d => m.d
  | .e => m.e
  | .w => m.w

/-- Replace the entry of a stage. -/
def StageMap.set {α : Type} (m : StageMap α) (s : StageId) (v : α) : StageMap α :=
  match s with
  | .f => { m with f := v }
  | .d => { m with d := v }
  | .e => { m with e := v }
  | .w => { m with w := v }

/-- The stages from Fetch to Writeback. -/
def StageId.all : List StageId := [.f, .d, .e, .w]

/-- The stages from Writeback to Fetch, the order of `K.START` (R286). -/
def StageId.fromLast : List StageId := [.w, .e, .d, .f]

/-- The levels in the order of the maintenance commands (R147, R148). -/
def Level.all : List Level := [.l1i, .l1d, .l2, .l3]

/-- The level chain from a level down; what follows its last level is main memory (R27). -/
def Level.chain : Level → List Level
  | .l1i => [.l1i, .l2, .l3]
  | .l1d => [.l1d, .l2, .l3]
  | .l2 => [.l2, .l3]
  | .l3 => [.l3]

/-- The levels below a level (R27). -/
def Level.below (l : Level) : List Level := l.chain.tail

/-- `OFFSETBITS` (R24). -/
def Config.offsetBits (c : Config) : Nat := Nat.log2 c.lineSize

/-- `NUMSETS[L]` (R24). -/
def Config.numSets (c : Config) (l : Level) : Nat := c.size.get l / (c.lineSize * c.assoc.get l)

/-- `INDEXBITS[L]` (R24). -/
def Config.indexBits (c : Config) (l : Level) : Nat := Nat.log2 (c.numSets l)

/-- `TAGBITS[L]` (R24). -/
def Config.tagBits (c : Config) (l : Level) : Nat := 64 - c.offsetBits - c.indexBits l

/-- The mask `LINE_SIZE - 1`. -/
def Config.offsetMask (c : Config) : Word := BitVec.ofNat 64 (c.lineSize - 1)

/-- `offset` of `Decompose` (R131). -/
def Config.offsetOf (c : Config) (a : Word) : Nat := (a &&& c.offsetMask).toNat

/-- `index` of `Decompose` (R131). -/
def Config.indexOf (c : Config) (l : Level) (a : Word) : Nat :=
  ((a >>> c.offsetBits) &&& BitVec.ofNat 64 (c.numSets l - 1)).toNat

/-- `tag` of `Decompose` (R131). -/
def Config.tagOf (c : Config) (l : Level) (a : Word) : Word := a >>> (c.offsetBits + c.indexBits l)

/-- `Compose` (R132). -/
def Config.compose (c : Config) (l : Level) (tag : Word) (index offset : Nat) : Word :=
  (tag <<< (c.offsetBits + c.indexBits l)) ||| (BitVec.ofNat 64 index <<< c.offsetBits) |||
    BitVec.ofNat 64 offset

/-- The line address of an address (R132). -/
def Config.lineAddr (c : Config) (a : Word) : Word := a &&& ~~~ c.offsetMask

/-- `Legal(addr, size)`: inside one line (R133). -/
def Config.legal (c : Config) (addr : Word) (size : Nat) : Bool :=
  decide (1 ≤ size) && decide (size ≤ c.lineSize) && decide (c.offsetOf addr + size ≤ c.lineSize)

/-- A power of two. -/
def isPow2 (n : Nat) : Bool := n == 2 ^ Nat.log2 n

/-- The constraints on one cache level (R9, R24, R131, R150, R344). -/
def Config.levelOk (c : Config) (l : Level) : Bool :=
  decide (1 ≤ c.assoc.get l) && decide (1 ≤ c.numSets l) && isPow2 (c.numSets l) &&
    c.size.get l == c.numSets l * c.lineSize * c.assoc.get l &&
    decide (c.offsetBits + c.indexBits l ≤ 63) && c.wpol.get l == .writeBack

/-- The constraints on one stage (R10, R344). -/
def Config.stageOk (c : Config) (s : StageId) : Bool :=
  decide (1 ≤ c.queueCap.get s) && decide (1 ≤ c.maxInFlightInit.get s)

/-- `costClass` (R241): the first row that matches, else the default. -/
def Config.costClass (c : Config) (cls : FormatClass) (opcode : BitVec 6) (func : BitVec 11) : CostClass :=
  match c.costRules.find? (fun r => r.cls == cls && (r.opcode.all (· == opcode)) && (r.func.all (· == func))) with
  | some r => r.cost
  | none => c.costDefault

/-- `classOf` (R123). -/
def Config.classOfOpcode (c : Config) (op : BitVec 6) : FormatClass := c.classOf[op.toNat]'(op.isLt)

/-- `memInfo` (R227). -/
def Config.memInfoOf (c : Config) (op : BitVec 6) : MemInfo := c.memInfo[op.toNat]'(op.isLt)

/-- `uncondBranch` (R227). -/
def Config.uncondBranchOf (c : Config) (op : BitVec 6) : Bool := c.uncondBranch[op.toNat]'(op.isLt)

/-- `floatDest` (R268). -/
def Config.floatDestOf (c : Config) (op : BitVec 6) : Bool := c.floatDest[op.toNat]'(op.isLt)

/-- `costClass` of the functions of an opcode that no row names. -/
def Config.costElse (c : Config) (cls : FormatClass) (opcode : BitVec 6) : CostClass :=
  match c.costRules.find? (fun r => r.cls == cls && (r.opcode.all (· == opcode)) && r.func.isNone) with
  | some r => r.cost
  | none => c.costDefault

/-- `costClass` is one class for every function of an opcode: for those no row names, and for each that a row names. -/
def Config.costIs (c : Config) (cls : FormatClass) (opcode : BitVec 6) (k : CostClass) : Bool :=
  c.costElse cls opcode == k && c.costRules.all (fun r => r.func.all (fun f => c.costClass cls opcode f == k))

/-- The source's examples constrain `costClass` (R241), over the opcodes 93_implementation_defined.md G6 calls forced:
integer add and logic Trivial, shifts Moderate, multiply Heavy, square root Heavy. -/
def Config.costOk (c : Config) : Bool :=
  c.costIs .operate 0x10 .trivial && c.costIs .operate 0x11 .trivial && c.costIs .operate 0x12 .moderate &&
    c.costIs .operate 0x13 .heavy && c.costIs .floatOp 0x14 .heavy

/-- The function number Decode gives the no-op word, by the class of its opcode: the function field of an Operate or a
FloatOp word, the zero jump type of a Jump word, and 0 where the class has none (R220 to R225). -/
def nopFunc : FormatClass → BitVec 11
  | .operate => 0x20
  | .floatOp => 0x20
  | .memory => 0
  | .branch => 0
  | .jump => 0
  | .misc => 0
  | .invalid => 0

/-- The constraints the no-op word puts on the open tables: its opcode is not Invalid, and the cost of the word as
Decode leaves it is not Heavy (R123, R245). -/
def Config.nopOk (c : Config) : Bool :=
  let cls := c.classOfOpcode 0x11
  cls != .invalid && c.costClass cls 0x11 (nopFunc cls) != .heavy

/-- The constraints on a configuration, collected (R344; R123, R150, R241, R245). -/
def Config.constraints (c : Config) : List Bool :=
  [isPow2 c.lineSize, decide (8 ≤ c.lineSize),
   Level.all.all c.levelOk, StageId.all.all c.stageOk,
   decide (1 ≤ c.fcLines), decide (4 ≤ c.fcLineSize), c.fcLineSize % 4 == 0, decide (c.prefetchWindow ≤ c.fcLineSize),
   c.resetPC.extractLsb' 0 2 == 0,
   decide (1 ≤ c.profilingThreshold), decide (c.profilingThreshold ≤ c.compilationThreshold),
   decide (1 ≤ c.heavyPoolSize),
   decide (1 ≤ c.excLogCap), decide (1 ≤ c.excLogMaxAge),
   decide (1 ≤ c.growDen), decide (c.growDen < c.growNum),
   decide (0 < c.shrinkNum), decide (c.shrinkNum < c.shrinkDen),
   decide (1 ≤ c.limitFloor), decide (c.limitFloor ≤ c.limitCap),
   decide (1 ≤ c.rollingWindow), decide (1 ≤ c.excWindow), c.costOk, c.nopOk]

/-- Whether a configuration keeps every constraint. -/
def Config.ok (c : Config) : Bool := c.constraints.all id

end Sys2Proof
end

