-- ==== Sys2Proof/Machine/Defaults.lean ====
section
/-! DEFINITION. The spec's default tables (93_implementation_defined.md G2, G3, G4, G6) and the configuration its test
vectors use (95_test_vectors.md section 0: T1 and PC1), which `State.reset` carries. Notes: entry 1. -/

namespace Sys2Proof.Machine

/-- Default `classOf` (G2). -/
def defaultClass (op : Nat) : FormatClass :=
  if op = 0x00 ∨ op = 0x18 then .misc
  else if op < 0x08 then .invalid
  else if op < 0x10 then .memory
  else if op < 0x14 then .operate
  else if op < 0x18 then .floatOp
  else if op = 0x1A then .jump
  else if op = 0x1C then .operate
  else if op < 0x20 then .invalid
  else if op < 0x30 then .memory
  else .branch

/-- Default `memInfo` (G3). Opcodes outside the Memory class never reach it. -/
def defaultMemInfo (op : Nat) : MemInfo :=
  match op with
  | 0x0A => ⟨.load, .b1⟩
  | 0x0B => ⟨.load, .b8⟩
  | 0x0C => ⟨.load, .b2⟩
  | 0x0D => ⟨.store, .b2⟩
  | 0x0E => ⟨.store, .b1⟩
  | 0x0F => ⟨.store, .b8⟩
  | 0x20 => ⟨.load, .b4⟩
  | 0x21 => ⟨.load, .b8⟩
  | 0x22 => ⟨.load, .b4⟩
  | 0x23 => ⟨.load, .b8⟩
  | 0x24 => ⟨.store, .b4⟩
  | 0x25 => ⟨.store, .b8⟩
  | 0x26 => ⟨.store, .b4⟩
  | 0x27 => ⟨.store, .b8⟩
  | 0x28 => ⟨.load, .b4⟩
  | 0x29 => ⟨.load, .b8⟩
  | 0x2A => ⟨.load, .b4⟩
  | 0x2B => ⟨.load, .b8⟩
  | 0x2C => ⟨.store, .b4⟩
  | 0x2D => ⟨.store, .b8⟩
  | 0x2E => ⟨.store, .b4⟩
  | 0x2F => ⟨.store, .b8⟩
  | _ => ⟨.neither, .b8⟩

/-- Default `floatDest` (G3). -/
def defaultFloatDest (op : Nat) : Bool := decide (0x20 ≤ op) && decide (op ≤ 0x23)

/-- Default `uncondBranch` (G4). -/
def defaultUncond (op : Nat) : Bool := op == 0x30 || op == 0x34

/-- Default `costClass` (G6), with Moderate for what it does not list. -/
def defaultCostRules : List CostRule :=
  [⟨.operate, some 0x10, none, .trivial⟩, ⟨.operate, some 0x11, none, .trivial⟩,
   ⟨.operate, some 0x12, none, .moderate⟩, ⟨.operate, some 0x13, none, .heavy⟩,
   ⟨.operate, some 0x1C, none, .moderate⟩, ⟨.memory, none, none, .moderate⟩,
   ⟨.floatOp, some 0x14, none, .heavy⟩, ⟨.floatOp, none, none, .moderate⟩,
   ⟨.branch, none, none, .trivial⟩, ⟨.jump, none, none, .trivial⟩, ⟨.misc, none, none, .moderate⟩]

/-- The 64 entries of a table over the opcodes. -/
def opcodeTable {α : Type} (f : Nat → α) : Vector α 64 := ⟨⟨(List.range 64).map f⟩, by simp⟩

/-- The configuration of the spec's test vectors: cache geometry T1, pipeline PC1, unit XU1. -/
def vectorConfig : Config :=
  { lineSize := 16
    size := ⟨64, 64, 128, 256⟩
    assoc := ⟨2, 2, 2, 4⟩
    repl := ⟨.lru, .lru, .lru, .lru⟩
    wpol := ⟨.writeBack, .writeBack, .writeBack, .writeBack⟩
    tracked := ⟨true, true, true, true⟩
    dataPath := .hierarchy
    queueCap := ⟨4, 4, 4, 4⟩
    maxInFlightInit := ⟨4, 4, 4, 4⟩
    forwardPolicy := .drop
    fcLines := 4
    fcLineSize := 16
    prefetchWindow := 4
    fetchSource := .hierarchy
    resetPC := 0x10000
    execVariant := .hybrid
    profilingThreshold := 3
    compilationThreshold := 5
    heavyPoolSize := 1
    classOf := opcodeTable defaultClass
    memInfo := opcodeTable defaultMemInfo
    uncondBranch := opcodeTable defaultUncond
    floatDest := opcodeTable defaultFloatDest
    costRules := defaultCostRules
    costDefault := .moderate
    unit := .xu1
    excLogCap := 8
    excLogMaxAge := 8
    growNum := 3
    growDen := 2
    limitCap := 64
    shrinkNum := 3
    shrinkDen := 4
    limitFloor := 1
    rollingWindow := 4
    excFreqThreshold := 3
    excWindow := 10 }

end Sys2Proof.Machine
end

