-- ==== Sys2Proof/Machine/ResetValues.lean ====
section
/-! DEFINITION. The reset value of every part of the block (R66, R340), as functions of the configuration, and of
the collaborators' registers (R341; notes: entry 2). -/

namespace Sys2Proof.Machine

/-- A cache line after reset (R66). -/
def resetLine (c : Config) : CacheLine :=
  { tag := 0, valid := false, dirty := false, state := .invalid, lastAccess := 0,
    data := List.replicate c.lineSize 0 }

/-- A cache set after reset (R23, R66). -/
def resetSet (c : Config) (l : Level) : CacheSet :=
  { ways := List.replicate (c.assoc.get l) (resetLine c), accessCounter := 0 }

/-- A cache level after reset (R26, R66). -/
def resetLevel (c : Config) (l : Level) : CacheLevel :=
  { sets := List.replicate (c.numSets l) (resetSet c l), hits := 0, misses := 0, evictions := 0, writebacks := 0 }

/-- The cache hierarchy after reset (R27, R66). -/
def resetCaches (c : Config) : LevelMap CacheLevel :=
  ⟨resetLevel c .l1i, resetLevel c .l1d, resetLevel c .l2, resetLevel c .l3⟩

/-- Stage statistics after reset and after (re)initialise (R32, R66). -/
def resetStats : Stats := ⟨0, 0, 0, 0, 0⟩

/-- A stage after reset (R66). -/
def resetStage (c : Config) (s : StageId) : Stage :=
  { life := .stopped, queue := [], flushFlag := false, maxInFlight := c.maxInFlightInit.get s,
    freePermits := c.maxInFlightInit.get s, stats := resetStats }

/-- The four stages after reset. -/
def resetStages (c : Config) : StageMap Stage :=
  ⟨resetStage c .f, resetStage c .d, resetStage c .e, resetStage c .w⟩

/-- An empty line of the fetch cache (R37, R66). -/
def resetFcEntry (c : Config) : FcEntry :=
  { valid := false, tag := 0, wordValid := List.replicate (c.fcLineSize / 4) false,
    words := List.replicate (c.fcLineSize / 4) 0 }

/-- Fetch's private state after reset, with a given `nextPC` (R66; `S.INIT` keeps `nextPC`, R171). -/
def resetFetch (c : Config) (pc : Word) : FetchState :=
  { nextPC := pc, branchTarget := none, fc := List.replicate c.fcLines (resetFcEntry c), fcHits := 0, fcMisses := 0 }

/-- Execute's private state after reset (R66). -/
def resetExec : ExecState :=
  { pendingHeavy := [], heavySeq := 0, executionExceptions := 0, tier := [], modeChanges := 0, jitMisses := 0,
    compilationTriggers := 0 }

/-- Writeback's private state after reset (R66). -/
def resetWb : WbState :=
  { instructionsCommitted := 0, commitFailures := 0, branchesTaken := 0, branchesNotTaken := 0,
    branchRedirects := 0, excLog := [], excSeq := 0 }

/-- The controller after reset (R66). -/
def resetCtrl : CtrlState :=
  { pstate := .stopped, pendingFlush := 0, recovering := false, utilSamples := ⟨[], [], [], []⟩, tick := 0,
    excTicks := [] }

/-- A register bank of the RegisterFile collaborator at the start of a run (R341 gives no value). -/
def startRegs : Vector Word 32 := Vector.replicate 32 0

/-- Draws with nothing supplied from outside. -/
def openDraws : Draws := ⟨[], 0⟩

end Sys2Proof.Machine
end

