-- ==== Sys2Proof/Machine/State.lean ====
section
/-! DEFINITION. The whole machine as plain data: the block's state (R20), the collaborators' state it is carried beside
(R60 to R62), the command port, and the model's own streams of draws. `Fault`, `Refusal`, and the state after reset. -/

namespace Sys2Proof.Machine

/-- The machine. -/
structure State where
  /-- The configuration: no operation writes it (R341). -/
  cfg : Config
  /-- The cache hierarchy and main memory (R21 to R28, R60). -/
  sys : MemSys
  /-- The integer bank of the RegisterFile collaborator (R50, R61). -/
  ints : Vector Word 32
  /-- The float bank of the RegisterFile collaborator (R51, R61). -/
  floats : Vector Word 32
  /-- The four PipelineStage records (R30 to R35). -/
  stages : StageMap Stage
  /-- Fetch-stage private state (R36, R37). -/
  fetch : FetchState
  /-- Execute-stage private state (R40 to R42). -/
  ex : ExecState
  /-- Writeback-stage private state (R44, R45). -/
  wb : WbState
  /-- Controller state (R48, R49). -/
  ctrl : CtrlState
  /-- The event stream, oldest first (R58). -/
  events : List Event
  /-- The profile trace the JitCompiler collaborator has been sent, oldest first (R62, R254). -/
  jitTrace : List (Word × IWord)
  /-- Command packets waiting at the command port, first to run first (R100, R104); one port for every outside party, DESIGN
  CHOICE (notes: entry 27). -/
  port : List Packet
  /-- The response to the last command answered (R103). -/
  resp : Option Response
  /-- The model's own: the draws of the pipeline and of the free-running schedule (R16). -/
  draws : Draws
deriving DecidableEq, Repr

/-- Faults. None: no condition of the spec stops the block. A failure is a refusal at the command interface, which
answers an error status and changes nothing, or an error class recorded in counters and events (R310), and
both are next states of the model. -/
inductive Fault where
deriving DecidableEq, Repr

/-- Refusals of the model. -/
inductive Refusal
  /-- Raised by `exec` for an instruction with no meaning yet; no arm raises it. Safe. -/
  | notModelled (mnemonic : String)
  /-- Raised by `step` when the configuration breaks a constraint of R344: "A model must refuse a configuration that
  breaks a constraint" (00_scope.md section 3; R150). Safe: the spec gives such a block no behaviour. -/
  | illegalConfiguration
deriving DecidableEq, Repr

/-- The machine right after reset (R66, R340), with the configuration of the spec's test vectors (notes: entry 1),
registers zero and memory with nothing listed (R341; notes: entries 2 and 5), and nothing at the command port. -/
def State.reset : State :=
  { cfg := vectorConfig
    sys := { caches := resetCaches vectorConfig, mem := [], victims := openDraws }
    ints := startRegs
    floats := startRegs
    stages := resetStages vectorConfig
    fetch := resetFetch vectorConfig vectorConfig.resetPC
    ex := resetExec
    wb := resetWb
    ctrl := resetCtrl
    events := []
    jitTrace := []
    port := []
    resp := none
    draws := openDraws }

end Sys2Proof.Machine
end

