-- ==== Sys2Proof/Machine/Memory.lean ====
section
/-! DEFINITION. Main memory (R60, R70): one flat byte-addressed space of 2^64 bytes, held as the bytes that differ from
what an unlisted address reads as, in one canonical form. -/

namespace Sys2Proof.Machine

/-- What a byte of main memory that nothing has listed reads as (R341 gives no value; notes: entry 5). -/
def unlistedByte : Byte := 0

/-- Read one byte. -/
def Memory.readByte : Memory → Nat → Byte
  | [], _ => unlistedByte
  | (k, v) :: t, a => if a = k then v else Memory.readByte t a

/-- List a byte at an address, keeping the addresses rising. -/
def Memory.insert : Memory → Nat → Byte → Memory
  | [], a, b => [(a, b)]
  | (k, v) :: t, a, b =>
    if a < k then (a, b) :: (k, v) :: t
    else if a = k then (a, b) :: t
    else (k, v) :: Memory.insert t a b

/-- Take an address off the list. -/
def Memory.erase : Memory → Nat → Memory
  | [], _ => []
  | (k, v) :: t, a => if a = k then t else (k, v) :: Memory.erase t a

/-- Write one byte, keeping the canonical form: what an unlisted address reads as is not listed. -/
def Memory.writeByte (m : Memory) (a : Nat) (b : Byte) : Memory :=
  if b = unlistedByte then Memory.erase m a else Memory.insert m a b

/-- `MemRead(addr, n)`: `n` bytes, lowest address first; addresses wrap (R15, R16). -/
def Memory.readBytes (m : Memory) (a : Word) : Nat → List Byte
  | 0 => []
  | n + 1 => Memory.readByte m a.toNat :: Memory.readBytes m (a + 1) n

/-- `MemWrite(addr, n, bytes)` (R15, R16). -/
def Memory.writeBytes (m : Memory) (a : Word) : List Byte → Memory
  | [] => m
  | b :: bs => Memory.writeBytes (Memory.writeByte m a.toNat b) (a + 1) bs

/-- Addresses strictly rising from a bound, within the address space, and no entry that an unlisted address would read as. -/
def Memory.wfFrom : Nat → Memory → Bool
  | _, [] => true
  | lo, (k, v) :: t => decide (lo ≤ k) && decide (k < 2 ^ 64) && v != unlistedByte && Memory.wfFrom (k + 1) t

/-- The canonical form. -/
def Memory.wf (m : Memory) : Bool := Memory.wfFrom 0 m

end Sys2Proof.Machine
end

