-- ==== Sys2Proof/Machine/Operands.lean ====
section
/-! DEFINITION. Operand forms and fields: the instruction-word slices Decode reads (R120 to R122), little-endian assembly (R72),
the effective address (R221), the operate operand (R121), and the extension of a load (R268). -/

namespace Sys2Proof.Machine

/-- `opcode = raw[31:26]` (R120). -/
def opcodeOf (w : IWord) : BitVec 6 := w.extractLsb' 26 6

/-- `ra = raw[25:21]` (R120). -/
def raOf (w : IWord) : RegNum := w.extractLsb' 21 5

/-- `rb = raw[20:16]` (R120). -/
def rbOf (w : IWord) : RegNum := w.extractLsb' 16 5

/-- `rc = raw[4:0]` (R120). -/
def rcOf (w : IWord) : RegNum := w.extractLsb' 0 5

/-- Memory displacement `sext_16(raw[15:0])` (R121). -/
def memDisp (w : IWord) : Word := (w.extractLsb' 0 16 : BitVec 16).signExtend 64

/-- Branch displacement `sext_21(raw[20:0])` (R121). -/
def branchDisp (w : IWord) : Word := (w.extractLsb' 0 21 : BitVec 21).signExtend 64

/-- `pc + 4 + 4 * disp`, modulo 2^64 (R122). -/
def branchTargetOf (pc disp : Word) : Word := pc + 4 + 4 * disp

/-- Bytes read as a number, the byte at the lowest address least significant (R72). -/
def leNat : List Byte → Nat
  | [] => 0
  | b :: bs => b.toNat + 256 * leNat bs

/-- Bytes read little-endian and zero-extended to 64 bits (R35, R72). -/
def leWord (bs : List Byte) : Word := BitVec.ofNat 64 (leNat bs)

/-- Four bytes read as an instruction word (R72, R206). -/
def leIWord (bs : List Byte) : IWord := BitVec.ofNat 32 (leNat bs)

/-- The low `n` bytes of a value, lowest first (R72). -/
def toLE (v : Word) : Nat → List Byte
  | 0 => []
  | n + 1 => v.extractLsb' 0 8 :: toLE (v >>> 8) n

end Sys2Proof.Machine

namespace Sys2Proof

/-- The number of bytes of an access size (R76). -/
def AccessSize.bytes : AccessSize → Nat
  | .b1 => 1
  | .b2 => 2
  | .b4 => 4
  | .b8 => 8

end Sys2Proof

namespace Sys2Proof.Machine

/-- What a load writes to its register: sign-extended from sizes 1, 2 and 4, verbatim for 8 (R268). -/
def extendLoad (size : AccessSize) (v : Word) : Word :=
  match size with
  | .b1 => (v.extractLsb' 0 8 : BitVec 8).signExtend 64
  | .b2 => (v.extractLsb' 0 16 : BitVec 16).signExtend 64
  | .b4 => (v.extractLsb' 0 32 : BitVec 32).signExtend 64
  | .b8 => v

/-- Whether an address is a multiple of 4 (R75, R209). -/
def aligned4 (a : Word) : Bool := a.extractLsb' 0 2 == 0

/-- A jump target with its low two bits cleared (R270). -/
def clearLow2 (a : Word) : Word := a &&& ~~~ 3

/-- A byte list cut or padded to a length: every access moves exactly `accessSize` bytes (R242 (b)). -/
def fitBytes (n : Nat) (bs : List Byte) : List Byte := (bs ++ List.replicate n 0).take n

/-- `NewInstruction(w, pc)` (R205): `valid`, no other flag, and every decoded and result field unset. -/
def freshRecord (w : IWord) (pc : Word) : InstrRecord :=
  { InstrRecord.zero with raw := w, pc := pc, valid := true }

end Sys2Proof.Machine
end

