-- ==== Sys2Proof/Machine/Flags.lean ====
section
/-! DEFINITION. The flags of the block (R53; there are no arithmetic condition codes) and the numbers of its
enumerations (R105, R112, R113, R116, R311, R312). -/

namespace Sys2Proof

/-- Replacement policy numbers (R113). -/
def ReplPolicy.code : ReplPolicy → Nat
  | .lru => 0
  | .random => 1

/-- Write policy numbers (R113). -/
def WritePolicy.code : WritePolicy → Nat
  | .writeBack => 0
  | .reserved => 1

/-- Format class numbers (R113). -/
def FormatClass.code : FormatClass → Nat
  | .memory => 0
  | .operate => 1
  | .branch => 2
  | .jump => 3
  | .floatOp => 4
  | .misc => 5
  | .invalid => 6

/-- Cost class numbers (R113). -/
def CostClass.code : CostClass → Nat
  | .trivial => 0
  | .moderate => 1
  | .heavy => 2

/-- Exception category numbers (R113). -/
def ExcCategory.code : ExcCategory → Nat
  | .arithmetic => 0
  | .memory => 1
  | .privilege => 2
  | .default => 3

end Sys2Proof

namespace Sys2Proof.Machine

/-- MESI numbers (R112). -/
def LineState.code : LineState → Nat
  | .invalid => 0
  | .shared => 1
  | .exclusive => 2
  | .modified => 3

/-- Stage lifecycle numbers (R109, R113). -/
def Life.code : Life → Nat
  | .stopped => 0
  | .ready => 1
  | .running => 2

/-- ExecutionMode numbers (R113). -/
def ExecMode.code : ExecMode → Nat
  | .interpret => 0
  | .profile => 1
  | .compiled => 2

/-- PipelineState numbers (R113). -/
def PState.code : PState → Nat
  | .stopped => 0
  | .starting => 1
  | .running => 2
  | .stopping => 3
  | .flushing => 4
  | .exception => 5

/-- Status codes (R105). -/
def Status.code : Status → Nat
  | .ok => 0
  | .rejected => 1
  | .errIllegal => 2
  | .errState => 3
  | .errSpan => 4
  | .errAlign => 5
  | .errRange => 6

/-- Event codes (R116). -/
def Event.code : Event → Nat
  | .stageStarted .. => 0
  | .stageStopped .. => 1
  | .stageStalled .. => 2
  | .backpressure .. => 3
  | .instructionCommitted .. => 4
  | .branchResolved .. => 5
  | .exceptionRaised .. => 6
  | .bottleneckDetected .. => 7
  | .performanceSnapshot .. => 8
  | .executionException .. => 9
  | .modeChanged .. => 10
  | .compilationRequested .. => 11

/-- Error class codes (R311, R312). -/
def ErrorClass.code : ErrorClass → Nat
  | .decodeInvalid => 0
  | .executionFailure => 1
  | .commitFailure => 2
  | .pipelineException => 3
  | .backpressure => 4
  | .stageDrop => 5

/-- Execute runs an instruction only when it is valid and decoded (R240). -/
def executable (r : InstrRecord) : Bool := r.valid && r.decoded

/-- Writeback's commit gate: valid, decoded and executed (R266). -/
def committable (r : InstrRecord) : Bool := r.valid && r.decoded && r.executed

/-- `taken` (R270): unconditional, or conditional with a true condition. -/
def branchTaken (r : InstrRecord) : Bool := r.isUnconditional || (r.isConditional && r.condResult)

/-- The error class an instruction meets at Writeback, none where it commits (R265, R311): the gate is
tested before the exception (R321 (d)). -/
def writebackError (r : InstrRecord) : Option ErrorClass :=
  if !committable r then some .commitFailure
  else if r.hasException then some .pipelineException
  else none

/-- A Stage with its flush flag raised where it is Running (R181, R290). -/
def raiseFlush (st : Stage) : Stage :=
  if st.life = .running then { st with flushFlag := true } else st

end Sys2Proof.Machine
end

