-- ==== Sys2Proof/Machine/Ops.lean ====
section
/-! DEFINITION. The named operations the meanings share: draws, registers, responses, events, stage records, and what the
block has in place of a trap: raising an architectural exception (R271, R293), and the return from it, which
is the controller's recovery by a flush (R290 to R294). -/

namespace Sys2Proof.Machine

/-- What a meaning answers. -/
abbrev Result := Host.Outcome State Fault Refusal

/-! ## Draws (R16) -/

/-- The next value of a stream: the first supplied one, else the open constant at its position. -/
def Draws.next (free : Nat → Nat) (d : Draws) : Nat × Draws :=
  match d.given with
  | x :: xs => (x, ⟨xs, d.count + 1⟩)
  | [] => (free d.count, ⟨[], d.count + 1⟩)

/-- `draw x : Nat` of the pipeline (R16). -/
def State.draw (s : State) : Nat × State :=
  ((s.draws.next Config.freeDraw).1, { s with draws := (s.draws.next Config.freeDraw).2 })

/-- A drawn truth value: every outcome is admitted (R206, R251, R253). -/
def drawnBool (n : Nat) : Bool := n % 2 == 1

/-! ## Registers (R50, R51, R244) -/

/-- `x[i]`: integer register 31 reads zero (R244). -/
def State.readInt (s : State) (r : RegNum) : Word := if r = 31 then 0 else s.ints[r.toNat]'(r.isLt)

/-- `x[i] <- v`: a write to integer register 31 does nothing (R244). -/
def State.writeInt (s : State) (r : RegNum) (v : Word) : State :=
  if r = 31 then s else { s with ints := s.ints.set r.toNat v r.isLt }

/-- `f[i]`: float register 31 reads zero (R244). -/
def State.readFloat (s : State) (r : RegNum) : Word := if r = 31 then 0 else s.floats[r.toNat]'(r.isLt)

/-- `f[i] <- v`: a write to float register 31 does nothing (R244). -/
def State.writeFloat (s : State) (r : RegNum) (v : Word) : State :=
  if r = 31 then s else { s with floats := s.floats.set r.toNat v r.isLt }

/-- The integer bank as the RegisterFile reads it out: register 31 is zero, whatever its slot holds (R244, R341). -/
def State.intsRead (s : State) : Vector Word 32 := s.ints.set 31 0

/-- The float bank as the RegisterFile reads it out (R244, R341). -/
def State.floatsRead (s : State) : Vector Word 32 := s.floats.set 31 0

/-! ## Responses and events (R58, R103) -/

/-- Answer the command `OK` with a result (R103). -/
def State.answer (s : State) (r : Word) (q : List Byte) : State := { s with resp := some ⟨.ok, r, q⟩ }

/-- Answer `OK` with no result. -/
def State.okay (s : State) : State := s.answer 0 []

/-- `refuse <code>`: the error status and no change of state (R16, R103). -/
def State.refuse (s : State) (c : Status) : State := { s with resp := some ⟨c, 0, []⟩ }

/-- `emit` (R16, R58). -/
def State.emit (s : State) (e : Event) : State := { s with events := s.events ++ [e] }

/-! ## Stage records -/

/-- The record of a stage. -/
def State.stage (s : State) (id : StageId) : Stage := s.stages.get id

/-- Replace the record of a stage. -/
def State.setStage (s : State) (id : StageId) (st : Stage) : State := { s with stages := s.stages.set id st }

/-- Whether a stage is Running. -/
def State.running (s : State) (id : StageId) : Bool := (s.stage id).life == .running

/-- Add one stall and publish it (R176, R177, R200, R266). -/
def State.stall (s : State) (id : StageId) : State :=
  let st := s.stage id
  (s.setStage id { st with stats := { st.stats with stallCycles := st.stats.stallCycles + 1 } }).emit
    (.stageStalled id)

/-! ## Flush and its acknowledgement (R290 to R292) -/

/-- How many stages are Running. -/
def State.runningCount (s : State) : Nat := (StageId.all.filter s.running).length

/-- `BeginFlush()` (R290). -/
def State.beginFlush (s : State) : State :=
  if s.runningCount = 0 then
    { s with ctrl := { s.ctrl with pstate := .running, recovering := false } }
  else
    { s with
      stages := ⟨raiseFlush s.stages.f, raiseFlush s.stages.d, raiseFlush s.stages.e, raiseFlush s.stages.w⟩
      ctrl := { s.ctrl with pstate := .flushing, pendingFlush := s.runningCount } }

/-- `FlushDone()` (R292). -/
def CtrlState.flushDone (k : CtrlState) : CtrlState := { k with pstate := .running, recovering := false }

/-- `FlushAck(s)` on the controller (R291): ignored unless a controller flush is pending. Any stage's acknowledgement counts
then, also of a flush the host set, which R357 does not reckon with: DEDUCED from R291 (notes: entry 30). -/
def CtrlState.flushAck (k : CtrlState) : CtrlState :=
  if k.pstate = .flushing ∧ 0 < k.pendingFlush then
    let k' := { k with pendingFlush := k.pendingFlush - 1 }
    if k'.pendingFlush = 0 then k'.flushDone else k'
  else k

/-- `FlushAck(s)` (R291). -/
def State.flushAck (s : State) : State := { s with ctrl := s.ctrl.flushAck }

/-- `ControllerBranch(pc, target)` (R298). -/
def State.controllerBranch (s : State) (pc target : Word) : State :=
  if target ≠ pc + 4 ∧ s.ctrl.pstate = .running then s.beginFlush else s

/-! ## Taking an exception (R271, R293) and the return from it (R294) -/

/-- `ControllerException(vector, pc)` (R293): counted for the circuit breaker, and from Running the controller
enters Exception. The vector and the pc are not stored by the controller. -/
def State.controllerException (s : State) (_vector : Nat) (_pc : Word) : State :=
  { s with ctrl :=
    { s.ctrl with
      excTicks := s.ctrl.excTicks ++ [s.ctrl.tick]
      pstate := if s.ctrl.pstate = .running then .exception else s.ctrl.pstate } }

/-- `Prune()` of the recent-exception log (R273): first by age, then the oldest beyond the bound. -/
def pruneLog (cap maxAge seq : Nat) (log : List ExcEntry) : List ExcEntry :=
  let young := log.filter (fun e => !decide (maxAge ≤ seq - e.stamp))
  young.drop (young.length - cap)

/-- `RaiseException(instr)` (R271): logged, pruned, published, and told to the controller. No program counter is
saved and fetch is not redirected: the block has no trap entry (R322). -/
def State.raiseException (s : State) (r : InstrRecord) : State :=
  let seq := s.wb.excSeq + 1
  let entry : ExcEntry := ⟨r.excVector, r.pc, Config.vectorCategory r.excVector, seq⟩
  let log := pruneLog s.cfg.excLogCap s.cfg.excLogMaxAge seq (s.wb.excLog ++ [entry])
  let s1 : State := { s with wb := { s.wb with excSeq := seq, excLog := log } }
  (s1.emit (.exceptionRaised r.excVector r.pc)).controllerException r.excVector r.pc

/-- One stage's part of `ResetPerformanceCounters()` (R295). -/
def Stage.resetCounters (st : Stage) : Stage :=
  { st with stats := { processed := 0, totalCycles := 0, stallCycles := 0, queueDepth := st.queue.length,
                       backpressureEvents := 0 } }

/-- `ResetPerformanceCounters()` (R295). -/
def State.resetPerformanceCounters (s : State) : State :=
  { s with
    stages := ⟨s.stages.f.resetCounters, s.stages.d.resetCounters, s.stages.e.resetCounters,
      s.stages.w.resetCounters⟩
    ctrl := { s.ctrl with utilSamples := ⟨[], [], [], []⟩ } }

/-- The exceptions within the window of `EXC_WINDOW` ticks (R294). -/
def State.recentTicks (s : State) : List Nat :=
  s.ctrl.excTicks.filter (fun t => decide (s.ctrl.tick - t < s.cfg.excWindow))

/-- `Recover()` (R294): the circuit breaker where the window holds too many exceptions, then a flush. -/
def State.recover (s : State) : State :=
  let s1 : State := { s with ctrl := { s.ctrl with excTicks := s.recentTicks } }
  let s2 : State :=
    if s.cfg.excFreqThreshold < s.recentTicks.length then
      { s1.resetPerformanceCounters with ctrl := { s1.resetPerformanceCounters.ctrl with excTicks := [] } }
    else s1
  ({ s2 with ctrl := { s2.ctrl with recovering := true } } : State).beginFlush

end Sys2Proof.Machine
end

