-- ==== Sys2Proof/Machine/Cache.lean ====
section
/-! DEFINITION. The cache hierarchy (40_cache_ops.md): lookup, hit and miss, eviction, the write-time invalidation, the two
maintenance walks, and the meanings of the seven `C.` commands. -/

namespace Sys2Proof.Machine

/-! ## Reaching a level, a set, a way -/

/-- A level of the hierarchy. -/
def MemSys.level (m : MemSys) (l : Level) : CacheLevel := m.caches.get l

/-- Replace a level. -/
def MemSys.setLevel (m : MemSys) (l : Level) (lv : CacheLevel) : MemSys := { m with caches := m.caches.set l lv }

/-- A set of a level. -/
def CacheLevel.setAt (lv : CacheLevel) (i : Nat) : CacheSet := lv.sets.getD i default

/-- A way of a set. -/
def CacheSet.way (st : CacheSet) (w : Nat) : CacheLine := st.ways.getD w default

/-- A set of a level of the hierarchy. -/
def MemSys.setAt (m : MemSys) (l : Level) (i : Nat) : CacheSet := (m.level l).setAt i

/-- The line in a way. -/
def MemSys.line (m : MemSys) (l : Level) (i w : Nat) : CacheLine := (m.setAt l i).way w

/-- Replace a set. -/
def MemSys.putSet (m : MemSys) (l : Level) (i : Nat) (st : CacheSet) : MemSys :=
  m.setLevel l { m.level l with sets := (m.level l).sets.set i st }

/-- Replace the line in a way. -/
def MemSys.putLine (m : MemSys) (l : Level) (i w : Nat) (ln : CacheLine) : MemSys :=
  m.putSet l i { m.setAt l i with ways := (m.setAt l i).ways.set w ln }

/-- Count a hit (R139). -/
def MemSys.countHit (m : MemSys) (l : Level) : MemSys := m.setLevel l { m.level l with hits := (m.level l).hits + 1 }

/-- Count a miss (R142). -/
def MemSys.countMiss (m : MemSys) (l : Level) : MemSys :=
  m.setLevel l { m.level l with misses := (m.level l).misses + 1 }

/-- Count an eviction (R144). -/
def MemSys.countEviction (m : MemSys) (l : Level) : MemSys :=
  m.setLevel l { m.level l with evictions := (m.level l).evictions + 1 }

/-- Count a writeback (R144, R146). -/
def MemSys.countWriteback (m : MemSys) (l : Level) : MemSys :=
  m.setLevel l { m.level l with writebacks := (m.level l).writebacks + 1 }

/-! ## Lookup, victim, states -/

/-- Whether a line is valid with a tag (R135). -/
def CacheLine.hasTag (ln : CacheLine) (tag : Word) : Bool := ln.valid && ln.tag == tag

/-- The way an access hits, none on a miss; the line state plays no part (R135). -/
def CacheSet.lookup (st : CacheSet) (tag : Word) : Option Nat := st.ways.findIdx? (·.hasTag tag)

/-- The way with the smallest stamp among the rest of a set, given the best so far; ties to the lowest way. -/
def lruScan : List CacheLine → Nat → Nat → Nat → Nat
  | [], _, best, _ => best
  | ln :: rest, i, best, stamp =>
    if ln.lastAccess < stamp then lruScan rest (i + 1) i ln.lastAccess else lruScan rest (i + 1) best stamp

/-- The least recently used way (R143). -/
def lruWay : List CacheLine → Nat
  | [] => 0
  | ln :: rest => lruScan rest 1 0 ln.lastAccess

/-- `Victim(L, index)` (R143): the lowest invalid way, else the least recently used way or a drawn one. -/
def victim (c : Config) (l : Level) (i : Nat) (m : MemSys) : Nat × MemSys :=
  match (m.setAt l i).ways.findIdx? (fun ln => !ln.valid) with
  | some w => (w, m)
  | none =>
    match c.repl.get l with
    | .lru => (lruWay (m.setAt l i).ways, m)
    | .random =>
      ((m.victims.next Config.freeVictim).1 % c.assoc.get l,
        { m with victims := (m.victims.next Config.freeVictim).2 })

/-- Whether a level holds a valid line with a line address (R154). -/
def MemSys.holds (c : Config) (m : MemSys) (l : Level) (la : Word) : Bool :=
  (m.setAt l (c.indexOf l la)).ways.any (·.hasTag (c.tagOf l la))

/-- `InstallState(L, la)` (R154): Shared if another level holds the line at that moment, else Exclusive. -/
def installState (c : Config) (l : Level) (la : Word) (m : MemSys) : LineState :=
  if Level.all.any (fun l' => l' != l && m.holds c l' la) then .shared else .exclusive

/-- A line made invalid (R144, R146): `lastAccess`, tag and data stay. -/
def CacheLine.invalidated (ln : CacheLine) : CacheLine := { ln with valid := false, dirty := false, state := .invalid }

/-- What the coherency rule does to one line of another level (R145). -/
def CacheLine.coherent (tag : Word) (ln : CacheLine) : CacheLine :=
  if ln.hasTag tag && ln.state == .shared then { ln with valid := false, state := .invalid } else ln

/-- The coherency rule on one other level (R145). -/
def coherencyAt (c : Config) (la : Word) (m : MemSys) (l : Level) : MemSys :=
  let st := m.setAt l (c.indexOf l la)
  m.putSet l (c.indexOf l la) { st with ways := st.ways.map (CacheLine.coherent (c.tagOf l la)) }

/-- `CoherencyInvalidate(L, la)`: every Shared copy at the other levels is invalidated (R145). -/
def coherencyInvalidate (c : Config) (l : Level) (la : Word) (m : MemSys) : MemSys :=
  (Level.all.filter (· != l)).foldl (coherencyAt c la) m

/-! ## Access -/

/-- What a level reaches the next level, or main memory, through. -/
abbrev Lower := Access → MemSys → List Byte × MemSys

/-- The address of an access. -/
def Access.addr : Access → Word
  | .read a _ => a
  | .write a _ => a

/-- Invalidate a valid way and, where it was dirty, count a writeback and write it to the next level (the common
part of R144 and R146): the line is invalid before its data goes down. -/
def retire (c : Config) (lower : Lower) (l : Level) (i w : Nat) (m : MemSys) : MemSys :=
  let ln := m.line l i w
  let m1 := m.putLine l i w ln.invalidated
  if ln.dirty then (lower (.write (c.compose l ln.tag i 0) ln.data) (m1.countWriteback l)).2 else m1

/-- `Evict(L, index, v)` (R144). -/
def evict (c : Config) (lower : Lower) (l : Level) (i w : Nat) (m : MemSys) : MemSys :=
  if (m.line l i w).valid then retire c lower l i w (m.countEviction l) else m

/-- `WritebackInvalidate(L, index, w)` (R146): as an eviction that is not counted. -/
def writebackInvalidate (c : Config) (lower : Lower) (l : Level) (i w : Nat) (m : MemSys) : MemSys :=
  if (m.line l i w).valid then retire c lower l i w m else m

/-- `Miss(L, addr)` (R142): count, pull from the next level, choose and evict the victim on the set as it is after the
pull, install. Answers the way installed. -/
def miss (c : Config) (lower : Lower) (l : Level) (a : Word) (m : MemSys) : Nat × MemSys :=
  let i := c.indexOf l a
  let la := c.lineAddr a
  let pulled := lower (.read la c.lineSize) (m.countMiss l)
  let v := victim c l i pulled.2
  let m3 := evict c lower l i v.1 v.2
  let fresh : CacheLine :=
    { tag := c.tagOf l a, valid := true, dirty := false, state := installState c l la m3,
      lastAccess := (m3.setAt l i).accessCounter, data := pulled.1 }
  (v.1, m3.putLine l i v.1 fresh)

/-- `Locate(L, addr)` (R137, R138): the set's counter goes up, then the hit or the miss. Answers the way that
holds the line. -/
def locate (c : Config) (lower : Lower) (l : Level) (a : Word) (m : MemSys) : Nat × MemSys :=
  let i := c.indexOf l a
  let st := m.setAt l i
  let m1 := m.putSet l i { st with accessCounter := st.accessCounter + 1 }
  match st.lookup (c.tagOf l a) with
  | some w =>
    let m2 := m1.countHit l
    (w, m2.putLine l i w { m2.line l i w with lastAccess := st.accessCounter + 1 })
  | none => miss c lower l a m1

/-- Bytes stored into a buffer at an offset. -/
def storeAt (data : List Byte) (o : Nat) (bytes : List Byte) : List Byte :=
  data.take o ++ bytes ++ data.drop (o + bytes.length)

/-- A line after a write of bytes at an offset: dirty and Modified whatever it was (R138, R139). -/
def CacheLine.written (ln : CacheLine) (o : Nat) (bytes : List Byte) : CacheLine :=
  { ln with data := storeAt ln.data o bytes, dirty := true, state := .modified }

/-- `LevelRead` and `LevelWrite` down a chain of levels that ends at main memory (R138, R153). -/
def access (c : Config) : List Level → Access → MemSys → List Byte × MemSys
  | [], .read a n, m => (m.mem.readBytes a n, m)
  | [], .write a bytes, m => ([], { m with mem := m.mem.writeBytes a bytes })
  | l :: rest, acc, m =>
    let found := locate c (access c rest) l acc.addr m
    let i := c.indexOf l acc.addr
    let o := c.offsetOf acc.addr
    match acc with
    | .read _ n => (((found.2.line l i found.1).data.drop o).take n, found.2)
    | .write a bytes =>
      ([], coherencyInvalidate c l (c.lineAddr a)
        (found.2.putLine l i found.1 ((found.2.line l i found.1).written o bytes)))

/-- The kinds of cache access that read (R134, R140). -/
inductive ReadKind
  | data | fetch
deriving DecidableEq, Repr

/-- The first level of a read (R134). -/
def ReadKind.first : ReadKind → Level
  | .data => .l1d
  | .fetch => .l1i

/-- `CacheRead(kind, addr, n)` (R16, R140): none where the access is not legal (R133). -/
def cacheRead (c : Config) (k : ReadKind) (a : Word) (n : Nat) (m : MemSys) : Option (List Byte × MemSys) :=
  if c.legal a n then some (access c k.first.chain (.read a n) m) else none

/-- `CacheWrite(addr, n, bytes)` of exactly the bytes given (R16, R141): none where the access is not legal. -/
def cacheWrite (c : Config) (a : Word) (bytes : List Byte) (m : MemSys) : Option MemSys :=
  if c.legal a bytes.length then some (access c Level.l1d.chain (.write a bytes) m).2 else none

/-! ## Maintenance -/

/-- Walk every way of every level, levels in order, then sets, then ways (R147, R148). -/
def forEachWay (c : Config) (f : Level → Nat → Nat → MemSys → MemSys) (m : MemSys) : MemSys :=
  Level.all.foldl (fun m l =>
    (List.range (c.numSets l)).foldl (fun m i =>
      (List.range (c.assoc.get l)).foldl (fun m w => f l i w m) m) m) m

/-- `flushAll` (R147). -/
def flushAll (c : Config) (m : MemSys) : MemSys :=
  forEachWay c (fun l i w m => writebackInvalidate c (access c l.below) l i w m) m

/-- Whether the line address of a way lies in a range of line addresses (R148). -/
def inRange (c : Config) (lo hi : Word) (l : Level) (i w : Nat) (m : MemSys) : Bool :=
  let la := c.compose l (m.line l i w).tag i 0
  decide (lo ≤ la) && decide (la ≤ hi)

/-- `invalidateRange` over the line addresses `lo .. hi` (R148). -/
def invalidateLines (c : Config) (lo hi : Word) (m : MemSys) : MemSys :=
  forEachWay c (fun l i w m =>
    if (m.line l i w).valid && inRange c lo hi l i w m then
      writebackInvalidate c (access c l.below) l i w m
    else m) m

/-- The line addresses of the valid lines of a level (R132). -/
def validAddrs (c : Config) (l : Level) (m : MemSys) : List Word :=
  (m.level l).sets.zipIdx.flatMap (fun p => (p.1.ways.filter (·.valid)).map (fun ln => c.compose l ln.tag p.2 0))

/-- `validateCacheCoherency()` over `TRACKED_LEVELS` (R151): no line address in more than one valid line. -/
def validateCoherency (c : Config) (m : MemSys) : Bool :=
  decide ((Level.all.filter c.tracked.get).flatMap (fun l => validAddrs c l m)).Nodup

/-- A counter of a level (R26, R108). -/
def CacheLevel.counter (lv : CacheLevel) : CacheCounter → Nat
  | .hits => lv.hits
  | .misses => lv.misses
  | .evictions => lv.evictions
  | .writebacks => lv.writebacks

/-! ## The commands -/

/-- A read command (R140): refused with `ERR_SPAN` where the access is not inside one line (R133). -/
def readCommand (k : ReadKind) (addr size : Word) (s : State) : State :=
  match cacheRead s.cfg k addr size.toNat s.sys with
  | none => s.refuse .errSpan
  | some (q, m) => { s with sys := m }.answer 0 q

/-- `C.READ addr, size` (R140). -/
def execCRead (addr size : Word) (s : State) : Result := .next (readCommand .data addr size s)

/-- `C.IFETCH addr, size` (R140). -/
def execCIfetch (addr size : Word) (s : State) : Result := .next (readCommand .fetch addr size s)

/-- `C.WRITE addr, size, bytes` (R141): the span is tested first, then the payload's length (R314). -/
def execCWrite (addr size : Word) (payload : List Byte) (s : State) : Result :=
  .next (
    if s.cfg.legal addr size.toNat then
      if payload.length = size.toNat then
        match cacheWrite s.cfg addr payload s.sys with
        | none => s.refuse .errSpan
        | some m => { s with sys := m }.okay
      else s.refuse .errRange
    else s.refuse .errSpan)

/-- `C.FLUSHALL` (R147). -/
def execCFlushall (s : State) : Result := .next { s with sys := flushAll s.cfg s.sys }.okay

/-- `C.INVRANGE addr, len` (R148). -/
def execCInvrange (addr len : Word) (s : State) : Result :=
  .next (
    if len = 0 then s.okay
    else if 2 ^ 64 < addr.toNat + len.toNat then s.refuse .errRange
    else { s with sys := invalidateLines s.cfg (s.cfg.lineAddr addr) (s.cfg.lineAddr (addr + len - 1)) s.sys }.okay)

/-- `C.VALIDATE` (R151). -/
def execCValidate (s : State) : Result :=
  .next (s.answer (if validateCoherency s.cfg s.sys then 1 else 0) [])

/-- `C.RDSTAT level, counter` (R152). -/
def execCRdstat (l : Level) (k : CacheCounter) (s : State) : Result :=
  .next (s.answer (low64 ((s.sys.level l).counter k)) [])

end Sys2Proof.Machine
end

