-- ==== Sys2Proof/Machine/Arbiter.lean ====
section
/-! DEFINITION. The generic pipeline stage (41_stage_ops.md): lifecycle, admission, forwarding, the worker's iteration around
a `process` function, resizing, stopping and flushing, and the meanings of the `S.` commands but `S.STEP`. -/

namespace Sys2Proof.Machine

/-! ## Lifecycle (R170 to R172, R180) -/

/-- The stage-private state after (re)initialise (R171): everything but `nextPC`. -/
def State.initPrivate (s : State) : StageId → State
  | .f => { s with fetch := resetFetch s.cfg s.fetch.nextPC }
  | .d => s
  | .e => { s with ex := resetExec }
  | .w => { s with wb := resetWb }

/-- What `S.INIT` does to a stage that is not Running (R171). -/
def State.initStage (s : State) (id : StageId) : State :=
  (s.setStage id { resetStage s.cfg id with life := .ready }).initPrivate id

/-- What `S.START` does to a Ready stage (R172). -/
def State.startStage (s : State) (id : StageId) : State :=
  (s.setStage id { s.stage id with life := .running }).emit (.stageStarted id)

/-- Stopping Execute discards the pending heavy operations (R180, R248). -/
def State.dropHeavy (s : State) : StageId → State
  | .e => { s with ex := { s.ex with pendingHeavy := [] } }
  | .f => s
  | .d => s
  | .w => s

/-- What `S.SHUTDOWN` does to a stage that is not Stopped (R180). -/
def State.shutdownStage (s : State) (id : StageId) : State :=
  let st := s.stage id
  ((s.setStage id { st with
      queue := [], stats := { st.stats with queueDepth := 0 }, freePermits := st.maxInFlight,
      flushFlag := false, life := .stopped }).dropHeavy id).emit (.stageStopped id)

/-! ## Admission (R173) -/

/-- Whether a submit is accepted: Running, then a free permit, then room in the queue (R173). -/
def State.admits (s : State) (id : StageId) : Bool :=
  let st := s.stage id
  st.life == .running && st.freePermits != 0 && st.queue.length != s.cfg.queueCap.get id

/-- A stage that has accepted an instruction (R173). -/
def Stage.accept (st : Stage) (r : InstrRecord) : Stage :=
  { st with
    freePermits := st.freePermits - 1
    queue := st.queue ++ [r]
    stats := { st.stats with queueDepth := st.queue.length + 1 } }

/-- A stage that has rejected an instruction (R173). -/
def Stage.reject (st : Stage) : Stage :=
  { st with stats := { st.stats with backpressureEvents := st.stats.backpressureEvents + 1 } }

/-- `submit(instr)` (R173): whether it was accepted, and the state after. -/
def State.submit (s : State) (id : StageId) (r : InstrRecord) : Bool × State :=
  if s.admits id then (true, s.setStage id ((s.stage id).accept r))
  else (false, (s.setStage id (s.stage id).reject).emit (.backpressure id))

/-- The stage that receives a stage's output (R30). -/
def downstream : StageId → Option StageId
  | .f => some .d
  | .d => some .e
  | .e => some .w
  | .w => none

/-- `Forward(s, instr)` (R178): a submit downstream; an instruction it rejects is dropped (`FORWARD_POLICY = Drop`). -/
def State.forward (s : State) (id : StageId) (r : InstrRecord) : State :=
  match downstream id with
  | none => s
  | some next => (s.submit next r).2

/-! ## The worker's iteration (R174 to R177, R182) -/

/-- Return one permit. -/
def State.releasePermit (s : State) (id : StageId) : State :=
  s.setStage id { s.stage id with freePermits := (s.stage id).freePermits + 1 }

/-- Count one processed instruction and the time of its `process` call (R175, R187). -/
def State.countProcessed (s : State) (id : StageId) (c : Nat) : State :=
  let st := s.stage id
  s.setStage id { st with
    stats := { st.stats with processed := st.stats.processed + 1, totalCycles := st.stats.totalCycles + c } }

/-- `Timeout(s)`: an iteration with an empty queue counts a stall while permits are free (R176). -/
def State.timeout (s : State) (id : StageId) : State :=
  if 0 < (s.stage id).freePermits then s.stall id else s

/-- `DropOnException(s, instr)` (R177): a stall, and the permit comes back; nothing is forwarded. -/
def State.dropOnException (s : State) (id : StageId) : State := (s.stall id).releasePermit id

/-- `FlushHere(s)` (R182). -/
def State.flushHere (s : State) (id : StageId) : State :=
  let st := s.stage id
  (s.setStage id { st with
    queue := [], freePermits := st.freePermits + st.queue.length,
    stats := { st.stats with queueDepth := 0 }, flushFlag := false }).flushAck

/-- The head of the queue taken off (R175). -/
def State.dequeue (s : State) (id : StageId) : State :=
  let st := s.stage id
  s.setStage id { st with queue := st.queue.tail, stats := { st.stats with queueDepth := st.queue.length - 1 } }

/-- A stage's `process` function (R186). -/
abbrev Process := InstrRecord → State → ProcessResult × State

/-- `Work(s)` on the instruction at the head of the queue (R175). -/
def State.work (s : State) (id : StageId) (process : Process) (r : InstrRecord) : State :=
  let drawn := (s.dequeue id).draw
  match process r drawn.2 with
  | (.output r', s') => ((s'.countProcessed id drawn.1).forward id r').releasePermit id
  | (.noOutput, s') => (s'.countProcessed id drawn.1).releasePermit id
  | (.threw, s') => s'.dropOnException id

/-- One worker iteration of a stage that works on its queue: D, E and W (R174). -/
def State.iterate (s : State) (id : StageId) (process : Process) : State :=
  if (s.stage id).flushFlag then s.flushHere id
  else match (s.stage id).queue with
    | [] => s.timeout id
    | r :: _ => s.work id process r

/-! ## Resizing the gate (R179) -/

/-- The gate shrunk by a number of permits (R179). -/
def Stage.shrink (st : Stage) (k : Nat) : Stage :=
  { st with freePermits := st.freePermits - k, maxInFlight := st.maxInFlight - k }

/-- The gate grown to a limit (R179). -/
def Stage.grow (st : Stage) (n : Nat) : Stage :=
  { st with freePermits := st.freePermits + (n - st.maxInFlight), maxInFlight := n }

/-- The most permits a shrink to `n` can take back (R179). -/
def Stage.shrinkMax (st : Stage) (n : Nat) : Nat := min (st.maxInFlight - n) st.freePermits

/-- `adjustMaxInFlight(n)` on a stage that may be adjusted (R179): growth is exact; a shrink takes back a drawn
number of permits, from none to as many as it can. -/
def State.resize (s : State) (id : StageId) (n : Nat) : State :=
  let st := s.stage id
  if st.maxInFlight ≤ n then s.setStage id (st.grow n)
  else s.draw.2.setStage id (st.shrink (s.draw.1 % (st.shrinkMax n + 1)))

/-- Why `S.ADJUST` is refused, if it is (R179). -/
def State.adjustRefusal (s : State) (id : StageId) (n : Nat) : Option Status :=
  if (s.stage id).life = .stopped then some .errState
  else if n = 0 then some .errRange
  else none

/-- `S.ADJUST` as the controller's tuning performs it: a refused one changes nothing (R179, R297). -/
def State.adjust (s : State) (id : StageId) (n : Nat) : State :=
  match s.adjustRefusal id n with
  | some _ => s
  | none => s.resize id n

/-! ## The commands -/

/-- `S.INIT s` (R171). -/
def execSInit (id : StageId) (s : State) : Result :=
  .next (if s.running id then s.refuse .errState else (s.initStage id).okay)

/-- `S.START s` (R172). -/
def execSStart (id : StageId) (s : State) : Result :=
  .next (if (s.stage id).life = .ready then (s.startStage id).okay else s.refuse .errState)

/-- `S.SUBMIT s, instr` (R173): a rejected submit is no refusal; it counts and publishes. -/
def execSSubmit (id : StageId) (r : InstrRecord) (s : State) : Result :=
  .next (
    let out := s.submit id r
    if out.1 then out.2.okay else { out.2 with resp := some ⟨.rejected, 0, []⟩ })

/-- `S.ADJUST s, n` (R179). -/
def execSAdjust (id : StageId) (n : Word) (s : State) : Result :=
  .next (
    match s.adjustRefusal id n.toNat with
    | some e => s.refuse e
    | none => (s.resize id n.toNat).answer (low64 ((s.resize id n.toNat).stage id).maxInFlight) [])

/-- `S.SHUTDOWN s` (R180). -/
def execSShutdown (id : StageId) (s : State) : Result :=
  .next (if (s.stage id).life = .stopped then s.refuse .errState else (s.shutdownStage id).okay)

/-- `S.FLUSH s` and `F.FLUSHREQ` (R181, R201): the flag of a Running stage is raised. -/
def flushRequest (id : StageId) (s : State) : State :=
  if s.running id then (s.setStage id { s.stage id with flushFlag := true }).okay else s.refuse .errState

/-- `S.FLUSH s` (R181). -/
def execSFlush (id : StageId) (s : State) : Result := .next (flushRequest id s)

/-- A value `S.RDSTAT` reads (R109). -/
def Stage.read (st : Stage) : StageSel → Nat
  | .processed => st.stats.processed
  | .totalCycles => st.stats.totalCycles
  | .stallCycles => st.stats.stallCycles
  | .queueDepth => st.stats.queueDepth
  | .backpressureEvents => st.stats.backpressureEvents
  | .maxInFlight => st.maxInFlight
  | .freePermits => st.freePermits
  | .life => st.life.code

/-- `S.RDSTAT s, sel` (R183). -/
def execSRdstat (id : StageId) (sel : StageSel) (s : State) : Result :=
  .next (s.answer (low64 ((s.stage id).read sel)) [])

end Sys2Proof.Machine
end

