-- ==== Sys2Proof/Machine/Fetch.lean ====
section
/-! DEFINITION. The Fetch stage (42_fetch.md): the iteration, redirect and flush, the fetch cache, the prefetch, and the
meanings of the `F.` commands. -/

namespace Sys2Proof.Machine

/-! ## The fetch cache (R37, R204) -/

/-- The line of the fetch cache a PC maps to: `(pc / lineSize) mod cacheSize` (R204). -/
def fcIndex (c : Config) (pc : Word) : Nat := pc.toNat / c.fcLineSize % c.fcLines

/-- The tag of a PC: `pc / (lineSize * cacheSize)` (R204). -/
def fcTag (c : Config) (pc : Word) : Word := BitVec.ofNat 64 (pc.toNat / (c.fcLineSize * c.fcLines))

/-- The word slot of a PC within its line (R204). -/
def fcSlot (c : Config) (pc : Word) : Nat := pc.toNat % c.fcLineSize / 4

/-- The word the fetch cache holds in a slot of a PC's line: line valid, tag equal and that word valid (R204;
conflict C3). -/
def fcLookup (c : Config) (fc : List FcEntry) (pc : Word) (slot : Nat) : Option IWord :=
  let e := fc.getD (fcIndex c pc) default
  if e.valid && e.tag == fcTag c pc && e.wordValid.getD slot false then some (e.words.getD slot 0) else none

/-- `FcInstall` (R204): a line with another tag is zeroed first. -/
def fcInstall (c : Config) (fc : List FcEntry) (pc : Word) (slot : Nat) (v : IWord) : List FcEntry :=
  let i := fcIndex c pc
  let e := fc.getD i default
  let kept := if e.valid && e.tag == fcTag c pc then e
    else { resetFcEntry c with valid := true, tag := fcTag c pc }
  fc.set i { kept with
    wordValid := kept.wordValid.set slot true
    words := kept.words.set slot v }

/-! ## Reading a word (R206) -/

/-- `readWord(addr)` (R206): through the instruction-fetch path of the hierarchy, or from main memory, where a drawn
failure is admitted at each call. -/
def State.readWord (s : State) (a : Word) : Option IWord × State :=
  match s.cfg.fetchSource with
  | .hierarchy =>
    match cacheRead s.cfg .fetch a 4 s.sys with
    | some (b, m) => (some (leIWord b), { s with sys := m })
    | none => (none, s)
  | .memory =>
    if drawnBool s.draw.1 then (none, s.draw.2)
    else (some (leIWord (s.sys.mem.readBytes a 4)), s.draw.2)

/-- Put a word into a slot of a PC's line of the fetch cache. -/
def State.installFc (s : State) (pc : Word) (slot : Nat) (v : IWord) : State :=
  { s with fetch := { s.fetch with fc := fcInstall s.cfg s.fetch.fc pc slot v } }

/-- `fetchInstruction(pc)` (R204). -/
def State.fetchInstruction (s : State) (pc : Word) : Option IWord × State :=
  match fcLookup s.cfg s.fetch.fc pc (fcSlot s.cfg pc) with
  | some w => (some w, { s with fetch := { s.fetch with fcHits := s.fetch.fcHits + 1 } })
  | none =>
    match s.readWord pc with
    | (none, s') => (none, s')
    | (some v, s') =>
      let s2 := s'.installFc pc (fcSlot s.cfg pc) v
      (some v, { s2 with fetch := { s2.fetch with fcMisses := s2.fetch.fcMisses + 1 } })

/-- The first word of the line after the one that holds a PC (R207). -/
def nextLine (c : Config) (pc : Word) : Word :=
  pc - BitVec.ofNat 64 (pc.toNat % c.fcLineSize) + BitVec.ofNat 64 c.fcLineSize

/-- `Prefetch(pc)` (R207): no hit, miss or stall is counted. -/
def State.prefetch (s : State) (pc : Word) : State :=
  if s.cfg.fcLineSize - s.cfg.prefetchWindow ≤ pc.toNat % s.cfg.fcLineSize then
    let p := nextLine s.cfg pc
    match fcLookup s.cfg s.fetch.fc p 0 with
    | some _ => s
    | none =>
      match s.readWord p with
      | (some v, s') => s'.installFc p 0 v
      | (none, s') => s'
  else s

/-! ## The iteration (R200, R203) -/

/-- Apply a pending redirect to `nextPC` (R203). -/
def FetchState.applyRedirect (ft : FetchState) : FetchState :=
  match ft.branchTarget with
  | some t => { ft with nextPC := t, branchTarget := none }
  | none => ft

/-- `FetchFlush()` (R203): the flush first, then the pending redirect; nothing is fetched (conflict C4). -/
def State.fetchFlush (s : State) : State :=
  let st := s.stage .f
  let s1 := s.setStage .f { st with
    queue := [], freePermits := st.maxInFlight, stats := { st.stats with queueDepth := 0 }, flushFlag := false }
  ({ s1 with fetch := s1.fetch.applyRedirect } : State).flushAck

/-- A successful fetch of a word at a PC (R200): counted, `nextPC` advances, prefetch, and the forward to Decode. -/
def State.fetched (s : State) (pc : Word) (w : IWord) : State :=
  let s1 := s.draw.2.countProcessed .f s.draw.1
  let s2 : State := { s1 with fetch := { s1.fetch with nextPC := pc + 4 } }
  (s2.prefetch pc).forward .f (freshRecord w pc)

/-- `FetchIteration()` (R200). -/
def State.fetchIteration (s : State) : State :=
  if (s.stage .f).flushFlag then s.fetchFlush
  else
    let s1 : State := { s with fetch := s.fetch.applyRedirect }
    let pc := s1.fetch.nextPC
    match s1.fetchInstruction pc with
    | (some w, s2) => s2.fetched pc w
    | (none, s2) => s2.stall .f

/-! ## The commands -/

/-- The effect of `F.REDIRECT t`, none where the target is not a multiple of 4 (R202). The latest target wins. -/
def State.redirect (s : State) (t : Word) : Option State :=
  if aligned4 t then some { s with fetch := { s.fetch with branchTarget := some t } } else none

/-- `F.REDIRECT t` (R202). -/
def execFRedirect (t : Word) (s : State) : Result :=
  .next (match s.redirect t with
    | some s' => s'.okay
    | none => s.refuse .errAlign)

/-- `F.FLUSHREQ` (R201): `S.FLUSH F` under Fetch's own name. -/
def execFFlushreq (s : State) : Result := .next (flushRequest .f s)

/-- `F.SETPC a` (R208): the state is tested first, then the alignment (R314). -/
def execFSetpc (a : Word) (s : State) : Result :=
  .next (
    if s.running .f then s.refuse .errState
    else if aligned4 a then { s with fetch := { s.fetch with nextPC := a } }.okay
    else s.refuse .errAlign)

/-- A value `F.RDSTAT` reads (R110). -/
def State.readFetch (s : State) : FetchSel → Word
  | .nextPC => s.fetch.nextPC
  | .fcHits => low64 s.fetch.fcHits
  | .fcMisses => low64 s.fetch.fcMisses
  | .stallCycles => low64 (s.stage .f).stats.stallCycles

/-- `F.RDSTAT sel` (R210). -/
def execFRdstat (sel : FetchSel) (s : State) : Result := .next (s.answer (s.readFetch sel) [])

end Sys2Proof.Machine
end

