-- ==== Sys2Proof/Machine/DecodeStage.lean ====
section
/-! DEFINITION. The Decode stage (43_decode.md): the fields every class of instruction word sets, and the `process`
function. -/

namespace Sys2Proof.Machine

/-- The fields every word sets before its class is looked at, with the defaults of those it may not set (R220). -/
def decodeCommon (c : Config) (w : IWord) (r : InstrRecord) : InstrRecord :=
  { r with
    opcode := opcodeOf w, cls := c.classOfOpcode (opcodeOf w), ra := raOf w, rb := rbOf w, rc := rcOf w,
    isLoad := false, isStore := false, accessSize := .b8, isConditional := false, isUnconditional := false,
    isLiteral := false, lit := 0, func := 0, disp := 0, branchTarget := 0 }

/-- Memory class (R221). -/
def decodeMemory (c : Config) (w : IWord) (r : InstrRecord) : InstrRecord :=
  let info := c.memInfoOf (opcodeOf w)
  { r with
    disp := memDisp w, isLoad := info.kind == .load, isStore := info.kind == .store, accessSize := info.size }

/-- Branch class (R222). -/
def decodeBranch (c : Config) (w : IWord) (r : InstrRecord) : InstrRecord :=
  let uncond := c.uncondBranchOf (opcodeOf w)
  { r with
    disp := branchDisp w, branchTarget := branchTargetOf r.pc (branchDisp w),
    isUnconditional := uncond, isConditional := !uncond }

/-- Operate class (R223): the literal only in the literal form. -/
def decodeOperate (w : IWord) (r : InstrRecord) : InstrRecord :=
  { r with
    func := (w.extractLsb' 5 7 : BitVec 7).setWidth 11, isLiteral := w.getLsbD 12,
    lit := if w.getLsbD 12 then w.extractLsb' 13 8 else 0 }

/-- FloatOp class (R224). -/
def decodeFloatOp (w : IWord) (r : InstrRecord) : InstrRecord := { r with func := w.extractLsb' 5 11 }

/-- Jump class (R225): the jump type in `func`, the unsigned hint in `disp`. -/
def decodeJump (w : IWord) (r : InstrRecord) : InstrRecord :=
  { r with
    isUnconditional := true, func := (w.extractLsb' 14 2 : BitVec 2).setWidth 11,
    disp := (w.extractLsb' 0 14 : BitVec 14).setWidth 64 }

/-- Misc class (R225): the unsigned 16-bit function in `disp`. -/
def decodeMisc (w : IWord) (r : InstrRecord) : InstrRecord :=
  { r with disp := (w.extractLsb' 0 16 : BitVec 16).setWidth 64 }

/-- Invalid class, DecodeInvalid (R226): flagged, not dropped. -/
def decodeInvalid (r : InstrRecord) : InstrRecord := { r with valid := false }

/-- The class's own fields (R220). -/
def decodeClass (c : Config) (w : IWord) (r : InstrRecord) : InstrRecord :=
  match r.cls with
  | .memory => decodeMemory c w r
  | .branch => decodeBranch c w r
  | .operate => decodeOperate w r
  | .floatOp => decodeFloatOp w r
  | .jump => decodeJump w r
  | .misc => decodeMisc w r
  | .invalid => decodeInvalid r

/-- The transform of a record by an instruction word (R220). -/
def decodeRecord (c : Config) (w : IWord) (r : InstrRecord) : InstrRecord :=
  { decodeClass c w (decodeCommon c w r) with decoded := true }

/-- `process_D` (R220): the transform by the record's own word; it always outputs. -/
def processD : Process := fun r s => (.output (decodeRecord s.cfg r.raw r), s)

/-- `process_D` for a given instruction word: what the Decode stage does with that word. -/
def processWord (w : IWord) : Process := fun r s => (.output (decodeRecord s.cfg w r), s)

end Sys2Proof.Machine
end

