-- ==== Sys2Proof/Machine/Execute.lean ====
section
/-! DEFINITION. The Execute stage (44_execute.md): the execution unit within its contract, inline execution, heavy operations,
execution faults, tiering, the `process` function, and the meanings of the `X.` commands. -/

namespace Sys2Proof.Machine

/-! ## Data memory (R71, R242 (b)) -/

/-- A data read of `n` bytes through `DATA_PATH`; none where the cache hierarchy refuses it (R133). -/
def State.dataRead (s : State) (a : Word) (n : Nat) : Option (List Byte) × State :=
  match s.cfg.dataPath with
  | .hierarchy =>
    match cacheRead s.cfg .data a n s.sys with
    | some (b, m) => (some b, { s with sys := m })
    | none => (none, s)
  | .memory => (some (s.sys.mem.readBytes a n), s)

/-- A data write through `DATA_PATH`; one that the cache hierarchy refuses changes nothing (R133). -/
def State.dataWrite (s : State) (a : Word) (bytes : List Byte) : State :=
  match s.cfg.dataPath with
  | .hierarchy =>
    match cacheWrite s.cfg a bytes s.sys with
    | some m => { s with sys := m }
    | none => s
  | .memory => { s with sys := { s.sys with mem := s.sys.mem.writeBytes a bytes } }

/-- What the unit learns of a data write of `n` bytes: that it was taken, or none where the cache hierarchy refuses it
(R133). The spec does not say that a unit is told: DESIGN CHOICE (notes: entry 24). -/
def State.writeAnswer (s : State) (a : Word) (n : Nat) : Option (List Byte) :=
  if s.cfg.dataPath = .hierarchy ∧ s.cfg.legal a n = false then none else some []

/-- The effective address `x[rb] + disp` of a Memory-class instruction (R221). -/
def State.effAddr (s : State) (r : InstrRecord) : Word := s.readInt r.rb + r.disp

/-- The second operand of an Operate-class instruction: the zero-extended literal, or `x[rb]` (R121, G8). -/
def State.operandB (s : State) (r : InstrRecord) : Word :=
  if r.isLiteral then r.lit.setWidth 64 else s.readInt r.rb

/-! ## The execution unit (R242, R245) -/

/-- The result fields an instruction already carries. -/
def keptResult (r : InstrRecord) : ExecResult :=
  ⟨r.loadValue, r.jumpTarget, r.condResult, false, r.excVector⟩

/-- What the collaborator sees: the registers as the RegisterFile reads them out (R242 (a), R244). -/
def State.unitView (s : State) (r : InstrRecord) (answers : List (Option (List Byte))) (n : Nat) : UnitView :=
  ⟨r, s.intsRead, s.floatsRead, answers, n⟩

/-- The collaborator's actions, at most `fuel` of them (R242 (a), (b)): register writes through the RegisterFile, and, where it
may make accesses of its `own`, data accesses of `accessSize` bytes through `DATA_PATH`. -/
def unitLoop (r : InstrRecord) (own : Bool) : Nat → List (Option (List Byte)) → Nat → State → UnitOutcome × State
  | 0, _, _, s => (.fault, s)
  | fuel + 1, answers, n, s =>
    match Config.unitAction (s.unitView r answers n) with
    | .setInt i v => unitLoop r own fuel answers (n + 1) (s.writeInt i v)
    | .setFloat i v => unitLoop r own fuel answers (n + 1) (s.writeFloat i v)
    | .readMem a =>
      if own then
        let got := s.dataRead a r.accessSize.bytes
        unitLoop r own fuel (answers ++ [got.1]) (n + 1) got.2
      else (.fault, s)
    | .writeMem a bytes =>
      if own then
        unitLoop r own fuel (answers ++ [s.writeAnswer a r.accessSize.bytes]) (n + 1)
          (s.dataWrite a (fitBytes r.accessSize.bytes bytes))
      else (.fault, s)
    | .done res => (.done res, s)
    | .fault => (.fault, s)

/-- A call that faults on a load or store: what it did to registers and memory before is not constrained (R249), beyond the
ways R242 (a) and (b) leave it. -/
def faultFreely (r : InstrRecord) (s : State) : UnitOutcome × State :=
  (.fault, (unitLoop r true (Config.unitActionBound r) [] 0 s).2)

/-- A load's result carries the bytes read, little-endian and zero-extended (R242 (c)); where the read was refused
the collaborator's own value stands. -/
def withLoaded (bytes : Option (List Byte)) (res : ExecResult) : ExecResult :=
  match bytes with
  | some b => { res with loadValue := leWord b }
  | none => res

/-- The destination register of a load, `ra` in the bank `floatDest` names (R268), as it stood before. -/
def State.keepDest (old : State) (r : InstrRecord) (s : State) : State :=
  if old.cfg.floatDestOf r.opcode then
    { s with floats := s.floats.set r.ra.toNat (old.floats[r.ra.toNat]'(r.ra.isLt)) r.ra.isLt }
  else { s with ints := s.ints.set r.ra.toNat (old.ints[r.ra.toNat]'(r.ra.isLt)) r.ra.isLt }

/-- How the execution of a load ends: a completed one carries its bytes and leaves its destination as it stood, to be
written by Writeback (R242 (c), R268, R359); what one that faults did to registers is not constrained (R249). -/
def loadEnd (r : InstrRecord) (bytes : Option (List Byte)) (old : State) : UnitOutcome × State → UnitOutcome × State
  | (.done res, s) => (.done (withLoaded bytes res), old.keepDest r s)
  | (.fault, s) => (.fault, s)

/-- Any execution unit that keeps the contract of R242 (notes: entry 4). A call that faults on a load or store is not
constrained in what it did (R249). A load or store that ends `Done` has made its one access, also where it reports an
architectural exception (R242 (f)): whether a unit that raises one has touched memory the spec leaves to the unit (R323),
and that it has is the model's choice, DESIGN CHOICE (notes: entry 25). A store that the hierarchy refuses stores nothing,
and the unit is told so: DESIGN CHOICE (notes: entry 24). A record with both `isLoad` and `isStore`, which only a submit from
outside can carry (R227), makes the load's access and no store: DESIGN CHOICE (notes: entry 29). -/
def collaborate (r : InstrRecord) (s : State) : UnitOutcome × State :=
  let bound := Config.unitActionBound r
  if r.isLoad then
    if Config.unitFaults (s.unitView r [] 0) then faultFreely r s
    else
      let got := s.dataRead (s.effAddr r) r.accessSize.bytes
      loadEnd r got.1 s (unitLoop r false bound [got.1] 1 got.2)
  else if r.isStore then
    if Config.unitFaults (s.unitView r [] 0) then faultFreely r s
    else
      let bytes := fitBytes r.accessSize.bytes (Config.unitStoreBytes (s.unitView r [] 0))
      unitLoop r false bound [s.writeAnswer (s.effAddr r) r.accessSize.bytes] 1 (s.dataWrite (s.effAddr r) bytes)
  else unitLoop r true bound [] 0 s

/-- The test unit XU1 on an Operate-class instruction (G8): any function it does not know faults. -/
def xu1Operate (r : InstrRecord) (s : State) : UnitOutcome × State :=
  let a := s.readInt r.ra
  let b := s.operandB r
  if r.opcode = 0x10 ∧ r.func = 0x20 then (.done (keptResult r), s.writeInt r.rc (a + b))
  else if r.opcode = 0x11 ∧ r.func = 0x20 then (.done (keptResult r), s.writeInt r.rc (a ||| b))
  else if r.opcode = 0x13 ∧ r.func = 0x20 then (.done (keptResult r), s.writeInt r.rc (a * b))
  else (.fault, s)

/-- XU1 on a load of 8 bytes (G8); an access that is not inside one line is the collaborator's. -/
def xu1Load (r : InstrRecord) (s : State) : UnitOutcome × State :=
  match s.dataRead (s.effAddr r) 8 with
  | (some b, s') => (.done { keptResult r with loadValue := leWord b }, s')
  | (none, _) => collaborate r s

/-- XU1 on a store of 8 bytes (G8); an access that is not inside one line is the collaborator's. -/
def xu1Store (r : InstrRecord) (s : State) : UnitOutcome × State :=
  if s.cfg.dataPath = .hierarchy ∧ s.cfg.legal (s.effAddr r) 8 = false then collaborate r s
  else (.done (keptResult r), s.dataWrite (s.effAddr r) (toLE (s.readInt r.ra) 8))

/-- The test execution unit XU1 (G8); instructions it says nothing of go to the collaborator. -/
def xu1 (r : InstrRecord) (s : State) : UnitOutcome × State :=
  match r.cls with
  | .operate => xu1Operate r s
  | .memory =>
    if r.opcode = 0x29 then xu1Load r s
    else if r.opcode = 0x2D then xu1Store r s
    else collaborate r s
  | .branch =>
    if r.opcode = 0x39 then (.done { keptResult r with condResult := s.readInt r.ra == 0 }, s)
    else if r.opcode = 0x3D then (.done { keptResult r with condResult := s.readInt r.ra != 0 }, s)
    else if r.opcode = 0x30 then (.done (keptResult r), s)
    else collaborate r s
  | .jump => collaborate r s
  | .floatOp => collaborate r s
  | .misc => collaborate r s
  | .invalid => collaborate r s

/-- The result of the no-op word (R245): no exception; its other fields, which no rule fixes, are free values (notes:
entry 26). -/
def nopDone (r : InstrRecord) : ExecResult := { Config.nopResult r with hasException := false }

/-- `execUnit(instr)` (R242): the no-op word is done with no register or memory effect and no exception (R245). -/
def execUnit (r : InstrRecord) (s : State) : UnitOutcome × State :=
  if r.raw = nopCode then (.done (nopDone r), s)
  else match s.cfg.unit with
    | .collaborator => collaborate r s
    | .xu1 => xu1 r s

/-! ## Completion and faults (R242, R243, R249) -/

/-- A record that has executed with a result, as it stands where `Complete` asks for its latency (R242). -/
def markExecuted (r : InstrRecord) (res : ExecResult) : InstrRecord :=
  { r with
    loadValue := res.loadValue, jumpTarget := res.jumpTarget, condResult := res.condResult,
    hasException := res.hasException, excVector := res.excVector, executed := true,
    executionCount := r.executionCount + 1 }

/-- `Complete(instr, r)` (R242, R243): the latency is asked of the record with its result in it, as the rule's lines stand. -/
def complete (r : InstrRecord) (res : ExecResult) : InstrRecord :=
  let done := markExecuted r res
  { done with cycleCount := done.cycleCount + (Config.cycleLatency done).toNat }

/-- `ExecFault(instr)`, ExecutionFailure (R249): counted and published; the instruction is not marked executed. -/
def State.execFault (s : State) (r : InstrRecord) : State :=
  { s with ex := { s.ex with executionExceptions := s.ex.executionExceptions + 1 } }.emit (.executionException r.pc)

/-- A record whose execution has faulted: not marked executed, also where it was submitted so marked, so that it ends as a
commit failure (R249, R266, R311). DEDUCED, unsafe (notes: entry 28). -/
def unmarked (r : InstrRecord) : InstrRecord := { r with executed := false }

/-- `ExecuteInline(instr)` (R242, R249). -/
def executeInline (r : InstrRecord) (s : State) : InstrRecord × State :=
  match execUnit r s with
  | (.done res, s') => (complete r res, s')
  | (.fault, s') => (unmarked r, s'.execFault r)

/-- `DispatchHeavy(instr)` (R246). -/
def State.dispatchHeavy (s : State) (r : InstrRecord) : State :=
  { s with ex :=
    { s.ex with pendingHeavy := s.ex.pendingHeavy ++ [(s.ex.heavySeq, r)], heavySeq := s.ex.heavySeq + 1 } }

/-! ## Tiering (R250 to R255) -/

/-- The tier record of a PC; a PC absent from the table stands for this (R41). -/
def noTier : TierEntry := ⟨0, none, false⟩

/-- Read the tier table (R41). -/
def tierGet : List (Nat × TierEntry) → Nat → TierEntry
  | [], _ => noTier
  | (k, e) :: t, pc => if pc = k then e else tierGet t pc

/-- Write the tier table, keeping its PCs rising (R41). -/
def tierSet : List (Nat × TierEntry) → Nat → TierEntry → List (Nat × TierEntry)
  | [], pc, e => [(pc, e)]
  | (k, v) :: t, pc, e =>
    if pc < k then (pc, e) :: (k, v) :: t
    else if pc = k then (pc, e) :: t
    else (k, v) :: tierSet t pc e

/-- `hasCompiledBlock(pc)`: the JitCompiler collaborator's answer at this moment, drawn (R62, R251). -/
def State.hasCompiledBlock (s : State) : Bool × State := (drawnBool s.draw.1, s.draw.2)

/-- `RequestCompile(e, pc)` (R252): one request per PC. -/
def State.requestCompile (s : State) (e : TierEntry) (pc : Word) : TierEntry × State :=
  if e.compileRequested then (e, s)
  else
    ({ e with compileRequested := true },
      ({ s with ex := { s.ex with compilationTriggers := s.ex.compilationTriggers + 1 } } : State).emit
        (.compilationRequested pc))

/-- `ModeFor(e, pc)` (R251). -/
def State.modeFor (s : State) (e : TierEntry) (pc : Word) : ExecMode × TierEntry × State :=
  if e.count < s.cfg.profilingThreshold then (.interpret, e, s)
  else if e.count < s.cfg.compilationThreshold then (.profile, e, s)
  else if s.hasCompiledBlock.1 then (.compiled, e, s.hasCompiledBlock.2)
  else
    let asked := s.hasCompiledBlock.2.requestCompile e pc
    (.profile, asked.1, asked.2)

/-- A mode change from the previously recorded mode is counted and published (R250, R255). -/
def State.noteMode (s : State) (old : Option ExecMode) (new : ExecMode) (pc : Word) : State :=
  match old with
  | none => s
  | some m =>
    if m = new then s
    else ({ s with ex := { s.ex with modeChanges := s.ex.modeChanges + 1 } } : State).emit (.modeChanged pc m new)

/-- `TierStep(instr)` (R250): count the visit, then choose the mode. -/
def State.tierStep (s : State) (r : InstrRecord) : ExecMode × State :=
  let e := tierGet s.ex.tier r.pc.toNat
  let chosen := s.modeFor { e with count := e.count + 1 } r.pc
  let s' := chosen.2.2.noteMode e.mode chosen.1 r.pc
  (chosen.1, { s' with ex :=
    { s'.ex with tier := tierSet s'.ex.tier r.pc.toNat { chosen.2.1 with mode := some chosen.1 } } })

/-- `recordExecution(pc, raw)`, called in Profile mode before the interpreted path: the JitCompiler's trace grows and
nothing of the block's changes (R254). -/
def State.recordExecution (s : State) (r : InstrRecord) : State := { s with jitTrace := s.jitTrace ++ [(r.pc, r.raw)] }

/-- `tryCompiled(instr)` (R253): drawn; either the execution unit's result with its effects done, or none with registers
and memory as before. -/
def State.tryCompiled (s : State) (r : InstrRecord) : Option ExecResult × State :=
  if drawnBool s.draw.1 then
    match execUnit r s.draw.2 with
    | (.done res, s') => (some res, s')
    | (.fault, _) => (none, s.draw.2)
  else (none, s.draw.2)

/-! ## The stage function (R240) -/

/-- The interpreted path: the cost split, then the pool or inline execution (R240). -/
def interpretE (r : InstrRecord) (s : State) : ProcessResult × State :=
  let r' := { r with cost := s.cfg.costClass r.cls r.opcode r.func }
  if r'.cost = .heavy then (.noOutput, s.dispatchHeavy r')
  else
    let out := executeInline r' s
    (.output out.1, out.2)

/-- The Hybrid variant: the tier step, then a compiled attempt or the interpreted path (R240, R253, R254). -/
def hybridE (r : InstrRecord) (s : State) : ProcessResult × State :=
  match s.tierStep r with
  | (.compiled, s') =>
    match s'.tryCompiled r with
    | (some res, s2) => (.output (complete r res), s2)
    | (none, s2) => interpretE r { s2 with ex := { s2.ex with jitMisses := s2.ex.jitMisses + 1 } }
  | (.profile, s') => interpretE r (s'.recordExecution r)
  | (.interpret, s') => interpretE r s'

/-- `process_E` (R240): an instruction that is not valid or not decoded is forwarded as it is. -/
def processE : Process := fun r s =>
  if executable r then
    match s.cfg.execVariant with
    | .plain => interpretE r s
    | .hybrid => hybridE r s
  else (.output r, s)

/-! ## The commands -/

/-- The pending heavy operation with an id (R247). -/
def ExecState.pending (x : ExecState) (id : Nat) : Option InstrRecord :=
  (x.pendingHeavy.find? (fun p => p.1 == id)).map (·.2)

/-- A pending heavy operation taken out of the pool (R247). -/
def State.takeHeavy (s : State) (id : Nat) : State :=
  { s with ex := { s.ex with pendingHeavy := s.ex.pendingHeavy.filter (fun p => p.1 != id) } }

/-- A heavy operation finishes (R247): it executes now, and is forwarded to Writeback. -/
def State.completeHeavy (s : State) (id : Nat) (r : InstrRecord) : State :=
  let out := executeInline r (s.takeHeavy id)
  out.2.forward .e out.1

/-- `X.COMPLETE id` (R247). -/
def execXComplete (id : Word) (s : State) : Result :=
  .next (match s.ex.pending id.toNat with
    | some r => (s.completeHeavy id.toNat r).okay
    | none => s.refuse .errState)

/-- A value `X.RDSTAT` reads (R110). -/
def ExecState.read (x : ExecState) : ExecSel → Nat
  | .pendingHeavyCount => x.pendingHeavy.length
  | .executionExceptions => x.executionExceptions
  | .modeChanges => x.modeChanges
  | .jitMisses => x.jitMisses
  | .compilationTriggers => x.compilationTriggers

/-- `X.RDSTAT sel` (R256). -/
def execXRdstat (sel : ExecSel) (s : State) : Result := .next (s.answer (low64 (s.ex.read sel)) [])

end Sys2Proof.Machine
end

