-- ==== Sys2Proof/Machine/Writeback.lean ====
section
/-! DEFINITION. The Writeback stage (45_writeback.md): the commit gate, loads, branches, the `process` function, and the
meaning of `W.RDSTAT`. The exception of R271 is `State.raiseException` (Ops). -/

namespace Sys2Proof.Machine

/-- `CommitFailure(instr)` (R266). -/
def State.commitFailure (s : State) : State :=
  ({ s with wb := { s.wb with commitFailures := s.wb.commitFailures + 1 } } : State).stall .w

/-- `WriteLoad(instr)` (R268): the destination is `ra`, in the bank `floatDest` names. -/
def State.writeLoad (s : State) (r : InstrRecord) : State :=
  if s.cfg.floatDestOf r.opcode then s.writeFloat r.ra (extendLoad r.accessSize r.loadValue)
  else s.writeInt r.ra (extendLoad r.accessSize r.loadValue)

/-- Whether an instruction is resolved as a branch (R265). -/
def isBranch (r : InstrRecord) : Bool := r.cls == .branch || r.cls == .jump

/-- `realized`: the taken target, a jump's with its low two bits cleared, or `pc + 4` (R270). -/
def realizedTarget (r : InstrRecord) : Word :=
  if branchTaken r then (if r.cls = .jump then clearLow2 r.jumpTarget else r.branchTarget) else r.pc + 4

/-- Count a resolved branch (R270). -/
def WbState.countBranch (b : WbState) (taken : Bool) : WbState :=
  if taken then
    { b with branchesTaken := b.branchesTaken + 1, branchRedirects := b.branchRedirects + 1 }
  else { b with branchesNotTaken := b.branchesNotTaken + 1 }

/-- The redirect of a taken branch: the effect of `F.REDIRECT` (R270, R202), a target that is not a multiple of 4
leaving Fetch as it is (R202, R209; notes: entry 11). -/
def State.branchRedirect (s : State) (t : Word) : State := (s.redirect t).getD s

/-- `ResolveBranch(instr)` (R270). -/
def State.resolveBranch (s : State) (r : InstrRecord) : State :=
  let s1 := ({ s with wb := s.wb.countBranch (branchTaken r) } : State).emit
    (.branchResolved r.pc (branchTaken r) (realizedTarget r))
  if branchTaken r then (s1.branchRedirect (realizedTarget r)).controllerBranch r.pc (realizedTarget r) else s1

/-- The commit of an instruction that passes the gate and carries no exception (R265, R267). -/
def State.commit (s : State) (r : InstrRecord) : State :=
  let s1 := if r.isLoad then s.writeLoad r else s
  let s2 := if isBranch r then s1.resolveBranch r else s1
  ({ s2 with wb := { s2.wb with instructionsCommitted := s2.wb.instructionsCommitted + 1 } } : State).emit
    (.instructionCommitted r.pc)

/-- What Writeback does with an instruction: gate, then exception, then commit (R265). -/
def State.writeback (s : State) (r : InstrRecord) : State :=
  if committable r then
    if r.hasException then s.raiseException r else s.commit r
  else s.commitFailure

/-- `process_W` (R265): always `NoOutput`. -/
def processW : Process := fun r s => (.noOutput, s.writeback r)

/-- A value `W.RDSTAT` reads (R110). -/
def WbState.read (b : WbState) : WbSel → Nat
  | .instructionsCommitted => b.instructionsCommitted
  | .commitFailures => b.commitFailures
  | .branchesTaken => b.branchesTaken
  | .branchesNotTaken => b.branchesNotTaken
  | .branchRedirects => b.branchRedirects
  | .excLogLength => b.excLog.length

/-- `W.RDSTAT sel` (R276). -/
def execWRdstat (sel : WbSel) (s : State) : Result := .next (s.answer (low64 (s.wb.read sel)) [])

end Sys2Proof.Machine
end

