-- ==== Sys2Proof/Machine/Controller.lean ====
section
/-! DEFINITION. The pipeline controller (46_controller.md): start, stop, progress, flush, the timer with its tuning, reset, and
the meanings of the `K.` commands and of `RESET`. The flush protocol, the exception and the recovery are in Ops. -/

namespace Sys2Proof.Machine

/-- Set `pstate`. -/
def State.setPState (s : State) (p : PState) : State := { s with ctrl := { s.ctrl with pstate := p } }

/-- `S.INIT s` and `S.START s` on a stage that is not Running (R286). -/
def State.bringUp (s : State) (id : StageId) : State :=
  if s.running id then s else (s.initStage id).startStage id

/-- `S.SHUTDOWN s` on a stage that is not Stopped (R288). -/
def State.bringDown (s : State) (id : StageId) : State :=
  if (s.stage id).life = .stopped then s else s.shutdownStage id

/-- What `K.START` does from Stopped: the stages from the last to the first; the tuning samples are cleared (R286). -/
def State.startAll (s : State) : State :=
  StageId.fromLast.foldl State.bringUp
    { s with ctrl := { s.ctrl with pstate := .starting, utilSamples := ⟨[], [], [], []⟩ } }

/-- What `K.STOP` does from Running: the stages from the first to the last (R288). -/
def State.stopAll (s : State) : State := StageId.all.foldl State.bringDown (s.setPState .stopping)

/-- Whether every stage is in a lifecycle state. -/
def State.allLife (s : State) (l : Life) : Bool := StageId.all.all (fun id => (s.stage id).life == l)

/-- The progress step of `K.ADVANCE`, none where none is enabled (R287). -/
def State.advance (s : State) : Option State :=
  match s.ctrl.pstate with
  | .starting => if s.allLife .running then some (s.setPState .running) else none
  | .stopping => if s.allLife .stopped then some (s.setPState .stopped) else none
  | .exception => some s.recover
  | .stopped => none
  | .running => none
  | .flushing => none

/-! ## The timer and the tuning (R296, R297) -/

/-- `UTIL_HIGH` (R14). -/
def utilHigh : Rat := 80

/-- `UTIL_LOW` (R14). -/
def utilLow : Rat := 30

/-- Queue utilization: occupancy over what the stage can hold (R296). -/
def State.utilization (s : State) (id : StageId) : Rat :=
  ((s.stage id).queue.length : Rat) / ((min (s.cfg.queueCap.get id) (s.stage id).maxInFlight : Nat) : Rat)

/-- The last `n` elements of a list. -/
def lastN {α : Type} (n : Nat) (l : List α) : List α := l.drop (l.length - n)

/-- One more sample of a stage in its rolling window (R296). -/
def State.sample (s : State) (id : StageId) : State :=
  { s with ctrl :=
    { s.ctrl with utilSamples :=
      s.ctrl.utilSamples.set id (lastN s.cfg.rollingWindow (s.ctrl.utilSamples.get id ++ [s.utilization id])) } }

/-- The average of a list of samples. -/
def average (l : List Rat) : Rat := l.sum / (l.length : Rat)

/-- The limit a congested stage grows to (R297). -/
def grownLimit (c : Config) (m : Nat) : Nat := min c.limitCap (max (m + 1) (m * c.growNum / c.growDen))

/-- The limit an idle stage shrinks towards (R297). -/
def shrunkLimit (c : Config) (m : Nat) : Nat := max c.limitFloor (m * c.shrinkNum / c.shrinkDen)

/-- `Tune(s)` (R297). -/
def State.tune (s : State) (id : StageId) : State :=
  let avg := average (s.ctrl.utilSamples.get id)
  let m := (s.stage id).maxInFlight
  if utilHigh < 100 * avg then
    let s1 := s.emit (.bottleneckDetected id)
    if m < s.cfg.limitCap then s1.adjust id (grownLimit s.cfg m) else s1
  else if 100 * avg < utilLow then
    if s.cfg.limitFloor < m then s.adjust id (shrunkLimit s.cfg m) else s
  else s

/-- The snapshot of the four stages' statistics (R296). -/
def State.snapshot (s : State) : Event :=
  .performanceSnapshot s.stages.f.stats s.stages.d.stats s.stages.e.stats s.stages.w.stats

/-- One firing of the timer (R296). -/
def State.timerTick (s : State) : State :=
  let s1 : State := { s with ctrl := { s.ctrl with tick := s.ctrl.tick + 1 } }
  let s2 := StageId.all.foldl State.sample s1
  let s3 := s2.emit s2.snapshot
  if s3.ctrl.pstate = .running then StageId.all.foldl State.tune s3 else s3

/-! ## Reset (R66, R340, R341) -/

/-- The block at its reset values; main memory, the registers, the JitCompiler and the configuration are not
the block's to reset (R341), and the draws and the command port are not the block's state. -/
def State.resetBlock (s : State) : State :=
  { s with
    sys := { s.sys with caches := resetCaches s.cfg }
    stages := resetStages s.cfg
    fetch := resetFetch s.cfg s.cfg.resetPC
    ex := resetExec
    wb := resetWb
    ctrl := resetCtrl
    events := [] }

/-! ## The commands -/

/-- `K.START` (R286). -/
def execKStart (s : State) : Result :=
  .next (if s.ctrl.pstate = .stopped then s.startAll.okay else s.refuse .errState)

/-- `K.STOP` (R288). -/
def execKStop (s : State) : Result :=
  .next (if s.ctrl.pstate = .running then s.stopAll.okay else s.refuse .errState)

/-- `K.FLUSH` (R290). -/
def execKFlush (s : State) : Result :=
  .next (if s.ctrl.pstate = .running then s.beginFlush.okay else s.refuse .errState)

/-- `K.EXCEPTION vector, pc` (R293): never refused. -/
def execKException (vector pc : Word) (s : State) : Result :=
  .next (s.controllerException vector.toNat pc).okay

/-- `K.TICK` (R296). -/
def execKTick (s : State) : Result :=
  .next (if s.ctrl.pstate = .stopped then s.refuse .errState else s.timerTick.okay)

/-- `K.ADVANCE` (R287). -/
def execKAdvance (s : State) : Result :=
  .next (match s.advance with
    | some s' => s'.okay
    | none => s.refuse .errState)

/-- A value `K.RDSTATE` reads (R300). -/
def CtrlState.read (k : CtrlState) : CtrlSel → Nat
  | .pstate => k.pstate.code
  | .pendingFlush => k.pendingFlush

/-- `K.RDSTATE sel` (R300). -/
def execKRdstate (sel : CtrlSel) (s : State) : Result := .next (s.answer (low64 (s.ctrl.read sel)) [])

/-- `RESET` (R340): accepted in every state, never refused. -/
def execReset (s : State) : Result := .next s.resetBlock.okay

end Sys2Proof.Machine
end

