-- ==== Sys2Proof/Machine/Worker.lean ====
section
/-! DEFINITION. `S.STEP`: one iteration of a stage's worker (R174). -/

namespace Sys2Proof.Machine

/-- The iteration of a Running stage (R174): Fetch generates, the others work on their queues. -/
def State.workerStep (s : State) : StageId → State
  | .f => s.fetchIteration
  | .d => s.iterate .d processD
  | .e => s.iterate .e processE
  | .w => s.iterate .w processW

/-- `S.STEP s` (R174): refused where the stage is not Running. -/
def execSStep (id : StageId) (s : State) : Result :=
  .next (if s.running id then (s.workerStep id).okay else s.refuse .errState)

end Sys2Proof.Machine
end

