-- ==== Sys2Proof/Machine/Words.lean ====
section
/-! DEFINITION. The meanings of the instruction-word rows of the opcode table. The block's own operation on an instruction
word is the Decode transform (R220 to R226): each word's meaning is the Decode worker's iteration with that word
(R174, R175). What the word then does at Execute and Writeback is the work of those stages' iterations (R240, R265)
on the record this iteration forwards. Notes: entry 9. -/

namespace Sys2Proof.Machine

/-- The Decode worker's iteration on an instruction word (R174, R220): the record at the head of the queue is decoded as
this word. As `S.STEP D`, refused where Decode is not Running. -/
def State.decodeStep (s : State) (w : IWord) : State :=
  if s.running .d then (s.iterate .d (processWord w)).okay else s.refuse .errState

/-- The no-op word (R125, R245). -/
def execNopWord (s : State) : Result := .next (s.decodeStep nopCode)

/-- Opcode 0x00, Misc (R225). -/
def execMisc00 (ra rb : RegNum) (func16 : BitVec 16) (s : State) : Result :=
  .next (s.decodeStep (halfWord 0x00 ra rb func16))

/-- Opcode 0x01, Invalid (R226). -/
def execInvalid01 (body : BitVec 26) (s : State) : Result := .next (s.decodeStep (bodyWord 0x01 body))

/-- Opcode 0x02, Invalid (R226). -/
def execInvalid02 (body : BitVec 26) (s : State) : Result := .next (s.decodeStep (bodyWord 0x02 body))

/-- Opcode 0x03, Invalid (R226). -/
def execInvalid03 (body : BitVec 26) (s : State) : Result := .next (s.decodeStep (bodyWord 0x03 body))

/-- Opcode 0x04, Invalid (R226). -/
def execInvalid04 (body : BitVec 26) (s : State) : Result := .next (s.decodeStep (bodyWord 0x04 body))

/-- Opcode 0x05, Invalid (R226). -/
def execInvalid05 (body : BitVec 26) (s : State) : Result := .next (s.decodeStep (bodyWord 0x05 body))

/-- Opcode 0x06, Invalid (R226). -/
def execInvalid06 (body : BitVec 26) (s : State) : Result := .next (s.decodeStep (bodyWord 0x06 body))

/-- Opcode 0x07, Invalid (R226). -/
def execInvalid07 (body : BitVec 26) (s : State) : Result := .next (s.decodeStep (bodyWord 0x07 body))

/-- Opcodes 0x08 to 0x0F, Memory (R221). -/
def execMemory08 (opc : BitVec 3) (ra rb : RegNum) (disp16 : BitVec 16) (s : State) : Result :=
  .next (s.decodeStep (halfWord (opcodeIn 0x08 opc) ra rb disp16))

/-- Opcodes 0x10 to 0x13, Operate (R223). -/
def execOperate10 (opc : BitVec 2) (ra : RegNum) (operand : OperateOperand) (func : BitVec 7) (rc : RegNum)
    (s : State) : Result :=
  .next (s.decodeStep (operateWord (opcodeIn 0x10 opc) ra operand func rc))

/-- Opcodes 0x14 to 0x17, FloatOp (R224). -/
def execFloatOp14 (opc : BitVec 2) (fa fb : RegNum) (func : BitVec 11) (fc : RegNum) (s : State) : Result :=
  .next (s.decodeStep (floatWord (opcodeIn 0x14 opc) fa fb func fc))

/-- Opcode 0x18, Misc (R225). -/
def execMisc18 (ra rb : RegNum) (func16 : BitVec 16) (s : State) : Result :=
  .next (s.decodeStep (halfWord 0x18 ra rb func16))

/-- Opcode 0x19, Invalid (R226). -/
def execInvalid19 (body : BitVec 26) (s : State) : Result := .next (s.decodeStep (bodyWord 0x19 body))

/-- Opcode 0x1A, Jump (R225). -/
def execJump1A (ra rb : RegNum) (type : BitVec 2) (hint : BitVec 14) (s : State) : Result :=
  .next (s.decodeStep (jumpWord 0x1A ra rb type hint))

/-- Opcode 0x1B, Invalid (R226). -/
def execInvalid1B (body : BitVec 26) (s : State) : Result := .next (s.decodeStep (bodyWord 0x1B body))

/-- Opcode 0x1C, Operate (R223). -/
def execOperate1C (ra : RegNum) (operand : OperateOperand) (func : BitVec 7) (rc : RegNum) (s : State) : Result :=
  .next (s.decodeStep (operateWord 0x1C ra operand func rc))

/-- Opcode 0x1D, Invalid (R226). -/
def execInvalid1D (body : BitVec 26) (s : State) : Result := .next (s.decodeStep (bodyWord 0x1D body))

/-- Opcode 0x1E, Invalid (R226). -/
def execInvalid1E (body : BitVec 26) (s : State) : Result := .next (s.decodeStep (bodyWord 0x1E body))

/-- Opcode 0x1F, Invalid (R226). -/
def execInvalid1F (body : BitVec 26) (s : State) : Result := .next (s.decodeStep (bodyWord 0x1F body))

/-- Opcodes 0x20 to 0x2F, Memory (R221). -/
def execMemory20 (opc : BitVec 4) (ra rb : RegNum) (disp16 : BitVec 16) (s : State) : Result :=
  .next (s.decodeStep (halfWord (opcodeIn 0x20 opc) ra rb disp16))

/-- Opcodes 0x30 to 0x3F, Branch (R222). -/
def execBranch30 (opc : BitVec 4) (ra : RegNum) (disp21 : BitVec 21) (s : State) : Result :=
  .next (s.decodeStep (branchWord (opcodeIn 0x30 opc) ra disp21))

end Sys2Proof.Machine
end

