-- ==== Sys2Proof/Machine/Port.lean ====
section
/-! DEFINITION. What runs next: the command waiting at the port, or a step an agent of the block takes on its own (R18, R104,
R184), chosen by a draw; and the instruction word that a step of the Decode worker runs. Notes: entries 6 and 7. -/

namespace Sys2Proof.Machine

/-- Who takes the next step (R18). -/
inductive Turn
  /-- The outside party whose command packet is first at the port (R104; one port for all: notes, entry 27). -/
  | command (p : Packet)
  /-- An agent inside the block, taking an enabled transition (R104). -/
  | agent (i : Instr)
deriving DecidableEq, Repr

/-- The transitions enabled in a state (R104): a worker iteration of every Running stage (R174), every pending heavy
operation (R247), the timer unless the controller is Stopped (R296), and the controller's progress (R287). -/
def State.enabled (s : State) : List Instr :=
  (StageId.all.filter s.running).map .sStep ++
  s.ex.pendingHeavy.map (fun p => .xComplete (low64 p.1)) ++
  (if s.ctrl.pstate = .stopped then [] else [.kTick]) ++
  (if s.advance.isSome then [.kAdvance] else [])

/-- Everyone who may take the next step: there is no order between them (R18, R321 (g)). The outside parties (the cache
requester, the host, an upstream stage) share one port, in the order their packets wait: R18 does not say so, DESIGN CHOICE
(notes: entry 27). -/
def State.turns (s : State) : List Turn :=
  (match s.port with
    | p :: _ => [.command p]
    | [] => []) ++ s.enabled.map .agent

/-- The place in `turns` of the one that goes: drawn, where there is a choice. -/
def State.pick (s : State) : Nat := if s.turns.length ≤ 1 then 0 else s.draw.1 % s.turns.length

/-- The one that goes next, none where nothing is enabled and no command waits. -/
def State.turn (s : State) : Option Turn := s.turns[s.pick]?

/-- The state an agent's step starts from: the scheduling draw is used up. -/
def State.scheduled (s : State) : State := s.draw.2

/-- The state a command runs in: the scheduling draw is used up and the packet is off the port. -/
def State.popped (s : State) : State := { s.scheduled with port := s.port.tail }

/-- The word a Decode worker iteration decodes: that of the record at the head of Decode's queue, where the worker is
Running and has no flush to handle (R174, R175). -/
def State.decodeHead (s : State) : Option IWord :=
  if s.running .d && !(s.stage .d).flushFlag then (s.stage .d).queue.head?.map (·.raw) else none

/-- The instruction a step runs: an iteration of the Decode worker on a record runs the record's instruction word. -/
def State.refine (s : State) (i : Instr) : Instr :=
  if i = .sStep .d then
    match s.decodeHead with
    | some w => decodeWord w
    | none => i
  else i

/-- The response of the last command stands while the agents run (R103). -/
def keepResponse (r : Option Response) : Result → Result
  | .next s => .next { s with resp := r }
  | .fault e => .fault e
  | .refused e => .refused e

/-! ## Placing an instruction where the next step takes it (notes: entry 7) -/

/-- A packet put first at the port, and the scheduling draw that lets it go next. -/
def State.withCommand (s : State) (p : Packet) : State :=
  { s with port := p :: s.port, draws := { s.draws with given := 0 :: s.draws.given } }

/-- A Decode stage whose worker runs on a word next: Running, with no flush to handle, and the word in the record at the
head of its queue (a fresh one at `pc` where the queue is empty, which takes a permit, R173). -/
def Stage.withWord (st : Stage) (pc : Word) (w : IWord) : Stage :=
  match st.queue with
  | r :: rest => { st with life := .running, flushFlag := false, queue := { r with raw := w } :: rest }
  | [] => { st.accept (freshRecord w pc) with life := .running, flushFlag := false }

/-- An instruction word put where the Decode worker takes it, and that worker's step asked for. -/
def State.withWord (s : State) (w : IWord) : State :=
  (s.setStage .d ((s.stage .d).withWord s.fetch.nextPC w)).withCommand (plainPacket (stageCW 3 .d) 0 0)

end Sys2Proof.Machine
end

