-- ==== Sys2Proof/Machine/Dispatch.lean ====
section
/-! DEFINITION. The dispatch: one arm per constructor of `Instr`, each one direct call of its meaning. -/

namespace Sys2Proof.Machine

/-- The meaning of an instruction. -/
def exec (i : Instr) (s : State) : Host.Outcome State Fault Refusal :=
  match i with
  | .cRead addr size => Sys2Proof.Machine.execCRead addr size s
  | .cWrite addr size payload => Sys2Proof.Machine.execCWrite addr size payload s
  | .cIfetch addr size => Sys2Proof.Machine.execCIfetch addr size s
  | .cFlushall => Sys2Proof.Machine.execCFlushall s
  | .cInvrange addr len => Sys2Proof.Machine.execCInvrange addr len s
  | .cValidate => Sys2Proof.Machine.execCValidate s
  | .cRdstat level counter => Sys2Proof.Machine.execCRdstat level counter s
  | .sInit stage => Sys2Proof.Machine.execSInit stage s
  | .sStart stage => Sys2Proof.Machine.execSStart stage s
  | .sSubmit stage record => Sys2Proof.Machine.execSSubmit stage record s
  | .sStep stage => Sys2Proof.Machine.execSStep stage s
  | .sAdjust stage n => Sys2Proof.Machine.execSAdjust stage n s
  | .sShutdown stage => Sys2Proof.Machine.execSShutdown stage s
  | .sFlush stage => Sys2Proof.Machine.execSFlush stage s
  | .sRdstat stage sel => Sys2Proof.Machine.execSRdstat stage sel s
  | .fRedirect target => Sys2Proof.Machine.execFRedirect target s
  | .fFlushreq => Sys2Proof.Machine.execFFlushreq s
  | .fSetpc pc => Sys2Proof.Machine.execFSetpc pc s
  | .fRdstat sel => Sys2Proof.Machine.execFRdstat sel s
  | .xComplete id => Sys2Proof.Machine.execXComplete id s
  | .xRdstat sel => Sys2Proof.Machine.execXRdstat sel s
  | .wRdstat sel => Sys2Proof.Machine.execWRdstat sel s
  | .kStart => Sys2Proof.Machine.execKStart s
  | .kStop => Sys2Proof.Machine.execKStop s
  | .kFlush => Sys2Proof.Machine.execKFlush s
  | .kException vector pc => Sys2Proof.Machine.execKException vector pc s
  | .kTick => Sys2Proof.Machine.execKTick s
  | .kRdstate sel => Sys2Proof.Machine.execKRdstate sel s
  | .kAdvance => Sys2Proof.Machine.execKAdvance s
  | .reset => Sys2Proof.Machine.execReset s
  | .nopWord => Sys2Proof.Machine.execNopWord s
  | .misc00 ra rb func16 => Sys2Proof.Machine.execMisc00 ra rb func16 s
  | .invalid01 body => Sys2Proof.Machine.execInvalid01 body s
  | .invalid02 body => Sys2Proof.Machine.execInvalid02 body s
  | .invalid03 body => Sys2Proof.Machine.execInvalid03 body s
  | .invalid04 body => Sys2Proof.Machine.execInvalid04 body s
  | .invalid05 body => Sys2Proof.Machine.execInvalid05 body s
  | .invalid06 body => Sys2Proof.Machine.execInvalid06 body s
  | .invalid07 body => Sys2Proof.Machine.execInvalid07 body s
  | .memory08 opc ra rb disp16 => Sys2Proof.Machine.execMemory08 opc ra rb disp16 s
  | .operate10 opc ra operand func rc => Sys2Proof.Machine.execOperate10 opc ra operand func rc s
  | .floatOp14 opc fa fb func fc => Sys2Proof.Machine.execFloatOp14 opc fa fb func fc s
  | .misc18 ra rb func16 => Sys2Proof.Machine.execMisc18 ra rb func16 s
  | .invalid19 body => Sys2Proof.Machine.execInvalid19 body s
  | .jump1A ra rb type hint => Sys2Proof.Machine.execJump1A ra rb type hint s
  | .invalid1B body => Sys2Proof.Machine.execInvalid1B body s
  | .operate1C ra operand func rc => Sys2Proof.Machine.execOperate1C ra operand func rc s
  | .invalid1D body => Sys2Proof.Machine.execInvalid1D body s
  | .invalid1E body => Sys2Proof.Machine.execInvalid1E body s
  | .invalid1F body => Sys2Proof.Machine.execInvalid1F body s
  | .memory20 opc ra rb disp16 => Sys2Proof.Machine.execMemory20 opc ra rb disp16 s
  | .branch30 opc ra disp21 => Sys2Proof.Machine.execBranch30 opc ra disp21 s

end Sys2Proof.Machine
end

