-- ==== Sys2Proof/Machine/Step.lean ====
section
/-! DEFINITION. The step of the machine, and the placing of an instruction where the next step takes it. -/

namespace Sys2Proof.Machine

/-- One step: the command or the agent whose turn it is runs its instruction (R18, R104); a packet that is no command is
answered `ERR_ILLEGAL` (R111); a configuration that breaks a constraint is refused (00_scope.md section 3). -/
def step (s : State) : Host.Outcome State Fault Refusal :=
  if s.cfg.ok then
    match s.turn with
    | none => .next s
    | some (.command p) =>
      match decodePacket p with
      | .ok i => exec (s.popped.refine i) s.popped
      | .error _ => .next (s.popped.refuse .errIllegal)
    | some (.agent i) => keepResponse s.resp (exec (s.scheduled.refine i) s.scheduled)
  else .refused .illegalConfiguration

/-- The state with an instruction, numbered as spec/opcode_table.json numbers its bits, where the next step takes it. -/
def State.withFetchWord (s : State) (nbits w : Nat) : State :=
  if isWordRow nbits then s.withWord (BitVec.ofNat 32 w) else s.withCommand (packetOfBits w)

end Sys2Proof.Machine
end

