-- ==== Sys2Proof/Safety.lean ====
section
/-! DEFINITION. What counts as a good state and a safe step, in the terms the statements use: the invariants the spec gives of
the cache hierarchy (R21 to R28, R134, R137), of the stages (R30 to R32, R171, R180), of Fetch (R36, R37, R209), of
Execute (R40, R41, R252), of Writeback (R45, R273) and of the controller (R48, R49); the current value of a byte (R82). -/

namespace Sys2Proof.Machine

/-! ## The cache hierarchy -/

/-- CacheLine consistency (R22). -/
def CacheLine.consistent (ln : CacheLine) : Prop :=
  (ln.valid = false ↔ ln.state = .invalid) ∧ (ln.dirty = true ↔ ln.state = .modified)

/-- A buffer of `LINE_SIZE` bytes, and a tag within its bits (R21). -/
def CacheLine.shaped (c : Config) (l : Level) (ln : CacheLine) : Prop :=
  ln.data.length = c.lineSize ∧ ln.tag.toNat < 2 ^ c.tagBits l

/-- At most one valid way with a given tag (R28). -/
def CacheSet.unique (st : CacheSet) : Prop :=
  st.ways.Pairwise (fun x y => x.valid = true → y.valid = true → x.tag ≠ y.tag)

/-- The stamps of a set: none beyond the set's counter, and those of valid lines distinct (R137). -/
def CacheSet.stamped (st : CacheSet) : Prop :=
  (∀ ln ∈ st.ways, ln.lastAccess ≤ st.accessCounter) ∧
  st.ways.Pairwise (fun x y => x.valid = true → y.valid = true → x.lastAccess ≠ y.lastAccess)

/-- A good set of a level: `ASSOC` ways, each consistent and shaped, and no dirty line in L1I (R23, R134). -/
def CacheSet.good (c : Config) (l : Level) (st : CacheSet) : Prop :=
  st.ways.length = c.assoc.get l ∧ st.unique ∧ st.stamped ∧
  ∀ ln ∈ st.ways, ln.consistent ∧ ln.shaped c l ∧ (l = .l1i → ln.dirty = false)

/-- A good level: `NUMSETS` good sets (R26). -/
def CacheLevel.good (c : Config) (l : Level) (lv : CacheLevel) : Prop :=
  lv.sets.length = c.numSets l ∧ ∀ st ∈ lv.sets, st.good c l

/-- A good hierarchy over a main memory in canonical form. -/
def MemSys.good (c : Config) (m : MemSys) : Prop := m.mem.wf = true ∧ ∀ l, (m.level l).good c l

/-- The valid line of a level that holds an address (R135). -/
def MemSys.copyAt (c : Config) (m : MemSys) (l : Level) (a : Word) : Option CacheLine :=
  (m.setAt l (c.indexOf l a)).ways.find? (·.hasTag (c.tagOf l a))

/-- The byte of an address as a chain of levels over main memory holds it: in the first valid copy, else in memory. -/
def MemSys.byteFrom (c : Config) (m : MemSys) : List Level → Word → Byte
  | [], a => m.mem.readByte a.toNat
  | l :: ls, a =>
    match m.copyAt c l a with
    | some ln => ln.data.getD (c.offsetOf a) 0
    | none => m.byteFrom c ls a

/-- The current value of a byte: "the first valid copy along the data chain always holds the current value" (R82). -/
def MemSys.current (c : Config) (m : MemSys) (a : Word) : Byte := m.byteFrom c Level.l1d.chain a

/-- Every clean copy along the data chain agrees with what lies below it: what makes the value rule of R82 hold. -/
def MemSys.coherent (c : Config) (m : MemSys) : Prop :=
  ∀ l ∈ Level.l1d.chain, ∀ a ln, m.copyAt c l a = some ln → ln.dirty = false →
    ln.data.getD (c.offsetOf a) 0 = m.byteFrom c l.below a

/-- A hit: some way of the address's set holds the tag in a valid line (R135). -/
def MemSys.hitsIn (c : Config) (m : MemSys) (l : Level) (a : Word) (w : Nat) : Prop :=
  w < c.assoc.get l ∧ (m.line l (c.indexOf l a) w).valid = true ∧ (m.line l (c.indexOf l a) w).tag = c.tagOf l a

/-- The whole effect of a hit on the hierarchy, but for the line `ln` that the way then holds (R137, R139): one hit, one
access of the set, the way restamped, and no other line or counter touched. -/
def MemSys.afterHit (m : MemSys) (l : Level) (i w : Nat) (ln : CacheLine) : MemSys :=
  let lv := m.level l
  let st := m.setAt l i
  { m with caches := m.caches.set l { lv with
      hits := lv.hits + 1
      sets := lv.sets.set i { accessCounter := st.accessCounter + 1
                              ways := st.ways.set w { ln with lastAccess := st.accessCounter + 1 } } } }

/-- A miss counted: one miss and one access of the set (R137, R142), before the pull from below. -/
def MemSys.afterMiss (m : MemSys) (l : Level) (i : Nat) : MemSys :=
  let lv := m.level l
  { m with caches := m.caches.set l { lv with
      misses := lv.misses + 1
      sets := lv.sets.set i { m.setAt l i with accessCounter := (m.setAt l i).accessCounter + 1 } } }

/-- The counters of a level after a miss whose victim, on the set as it is after the pull, is the line `old`: a miss and
no hit; an eviction where the victim was valid; a writeback where it was dirty too (R142, R144). -/
def CacheLevel.missCounted (lv : CacheLevel) (old : CacheLine) (lv' : CacheLevel) : Prop :=
  lv'.hits = lv.hits ∧ lv'.misses = lv.misses + 1 ∧
  lv'.evictions = lv.evictions + (if old.valid then 1 else 0) ∧
  lv'.writebacks = lv.writebacks + (if old.valid && old.dirty then 1 else 0)

/-- The coherency rule on a line of another level (R145): invalidated where it is a Shared copy of the address's line. -/
def CacheLine.afterWriteElsewhere (c : Config) (l : Level) (a : Word) (i : Nat) (ln : CacheLine) : CacheLine :=
  if i = c.indexOf l a ∧ ln.valid = true ∧ ln.tag = c.tagOf l a ∧ ln.state = .shared then
    { ln with valid := false, state := .invalid }
  else ln

/-- What traffic below a level may do to one of the level's lines: nothing, or, where it is Shared, the invalidation of the
coherency rule (R145). -/
def CacheLine.keptOrDropped (ln ln' : CacheLine) : Prop :=
  ln' = ln ∨ (ln.valid = true ∧ ln.state = .shared ∧ ln' = { ln with valid := false, state := .invalid })

/-- A way invalidated, with `n` evictions counted at its level, and a writeback where its line was dirty (R144, R146). -/
def MemSys.dropWay (m : MemSys) (l : Level) (i w n : Nat) : MemSys :=
  let lv := m.level l
  let st := m.setAt l i
  let ln := m.line l i w
  { m with caches := m.caches.set l { lv with
      evictions := lv.evictions + n
      writebacks := lv.writebacks + (if ln.dirty then 1 else 0)
      sets := lv.sets.set i { st with
        ways := st.ways.set w { ln with valid := false, dirty := false, state := .invalid } } } }

/-- A way taken out, with `n` evictions counted where it held a valid line: a dirty line is written to the next level after
the way is invalid (R144, R146). -/
def MemSys.takenOut (c : Config) (l : Level) (i w n : Nat) (m : MemSys) : MemSys :=
  let ln := m.line l i w
  if ln.valid = false then m
  else if ln.dirty = true then (access c l.below (.write (c.compose l ln.tag i 0) ln.data) (m.dropWay l i w n)).2
  else m.dropWay l i w n

/-- No line is valid at any level. -/
def MemSys.noneValid (m : MemSys) : Prop := ∀ l, ∀ st ∈ (m.level l).sets, ∀ ln ∈ st.ways, ln.valid = false

/-- Whether an address is one of the `n` bytes from an address on, modulo 2^64. -/
def within (a : Word) (n : Nat) (x : Word) : Prop := (x - a).toNat < n

/-! ## The stages -/

/-- A good stage: the gate's count (R31), the queue within its capacity (R30), `queueDepth` its length (R32), and nothing
queued and no flush pending where the worker does not run (R171, R180, R181). -/
def Stage.good (cap : Nat) (st : Stage) : Prop :=
  st.freePermits + st.queue.length = st.maxInFlight ∧ 1 ≤ st.maxInFlight ∧ st.queue.length ≤ cap ∧
  st.stats.queueDepth = st.queue.length ∧
  (st.life ≠ .running → st.queue = [] ∧ st.flushFlag = false)

/-- Four good stages. -/
def State.stagesGood (s : State) : Prop := ∀ id, (s.stage id).good (s.cfg.queueCap.get id)

/-! ## Fetch -/

/-- A good line of the fetch cache: a slot for every word (R37). -/
def FcEntry.good (c : Config) (e : FcEntry) : Prop :=
  e.words.length = c.fcLineSize / 4 ∧ e.wordValid.length = c.fcLineSize / 4

/-- `nextPC` and a pending redirect are multiples of 4 (R209), and the fetch cache has its shape (R37). -/
def State.fetchGood (s : State) : Prop :=
  aligned4 s.fetch.nextPC = true ∧ (∀ t, s.fetch.branchTarget = some t → aligned4 t = true) ∧
  s.fetch.fc.length = s.cfg.fcLines ∧ ∀ e ∈ s.fetch.fc, e.good s.cfg

/-! ## Execute -/

/-- No two pending heavy operations share an id and none has one yet to be given (R40); the tier table has one record per
PC, a compilation has been requested only at the threshold, and each request is one trigger (R41, R252, R257). -/
def State.execGood (s : State) : Prop :=
  s.ex.pendingHeavy.Pairwise (fun p q => p.1 ≠ q.1) ∧ (∀ p ∈ s.ex.pendingHeavy, p.1 < s.ex.heavySeq) ∧
  s.ex.tier.Pairwise (fun p q => p.1 < q.1) ∧
  (∀ p ∈ s.ex.tier, p.2.compileRequested = true → s.cfg.compilationThreshold ≤ p.2.count) ∧
  s.ex.compilationTriggers = (s.ex.tier.filter (fun p => p.2.compileRequested)).length

/-! ## Writeback -/

/-- The exception log: at most `EXC_LOG_CAP` entries, oldest first, none older than the bound (R45, R273). -/
def State.logGood (s : State) : Prop :=
  s.wb.excLog.length ≤ s.cfg.excLogCap ∧ s.wb.excLog.Pairwise (fun x y => x.stamp < y.stamp) ∧
  ∀ e ∈ s.wb.excLog, e.stamp ≤ s.wb.excSeq ∧ s.wb.excSeq - e.stamp < s.cfg.excLogMaxAge

/-! ## The controller -/

/-- The controller: `pendingFlush` is 0 to 4, positive while Flushing; a recovery is a flush in progress (R48, R291); each
stage's samples are at most `ROLLING_WINDOW` rationals in 0..1, and no exception lies ahead of the tick (R49). -/
def State.controlGood (s : State) : Prop :=
  s.ctrl.pendingFlush ≤ 4 ∧ (s.ctrl.pstate = .flushing → 1 ≤ s.ctrl.pendingFlush) ∧
  (s.ctrl.recovering = true → s.ctrl.pstate = .flushing) ∧
  (∀ id, (s.ctrl.utilSamples.get id).length ≤ s.cfg.rollingWindow ∧
    ∀ u ∈ s.ctrl.utilSamples.get id, 0 ≤ u ∧ u ≤ 1) ∧
  ∀ t ∈ s.ctrl.excTicks, t ≤ s.ctrl.tick

/-- The arbiter: its stages and its controller. -/
def State.arbiterGood (s : State) : Prop := s.stagesGood ∧ s.controlGood

/-! ## The transitions of the controller (R285, R294) -/

/-- The pairs of states the controller moves between, other than by `RESET` (R285); `exception` to `running` is a recovery
with no stage Running (R294). -/
def PState.mayBecome (p q : PState) : Prop :=
  p = q ∨ (p = .stopped ∧ q = .starting) ∨ (p = .starting ∧ q = .running) ∨ (p = .running ∧ q = .stopping) ∨
  (p = .stopping ∧ q = .stopped) ∨ (p = .running ∧ q = .flushing) ∨ (p = .flushing ∧ q = .running) ∨
  (p = .running ∧ q = .exception) ∨ (p = .exception ∧ q = .flushing) ∨ (p = .exception ∧ q = .running)

/-! ## Command words (R106, R107, R110) -/

/-- The rows of R106 and R107: mask and match over the 16 bits of the command word. -/
def commandRows : List (BitVec 16 × BitVec 16) :=
  [(0xFFFF, 0x0000), (0xFFFF, 0x0001), (0xFFFF, 0x0002), (0xFFFF, 0x0100), (0xFFFF, 0x0200), (0xFFFF, 0x0300),
   (0xFFF0, 0x0400), (0xFFFC, 0x1000), (0xFFFC, 0x1100), (0xFFFC, 0x1200), (0xFFFC, 0x1300), (0xFFFC, 0x1400),
   (0xFFFC, 0x1500), (0xFFFC, 0x1600), (0xFFE0, 0x1700)] ++
  [(0xFFFF, 0x2000), (0xFFFF, 0x2100), (0xFFFF, 0x2200), (0xFFFC, 0x2300), (0xFFFF, 0x3000), (0xFFF8, 0x3100),
   (0xFFF8, 0x4000), (0xFFFF, 0x5000), (0xFFFF, 0x5100), (0xFFFF, 0x5200), (0xFFFF, 0x5300), (0xFFFF, 0x5400),
   (0xFFFE, 0x5500), (0xFFFF, 0x5700), (0xFFFF, 0xF000)]

/-- The reserved read-out selectors (R110). -/
def reservedSelectorWords : List (BitVec 16) := [0x3105, 0x3106, 0x3107, 0x4006, 0x4007]

/-- Whether a command word matches a row and names no reserved selector (R111). -/
def isCommandWord (cw : BitVec 16) : Bool :=
  commandRows.any (fun r => cw &&& r.1 == r.2) && !reservedSelectorWords.contains cw

/-! ## Terms of the statements about the stages -/

/-- A record as Fetch makes it from a word at a PC (R205): the decoded and result fields it leaves unset are not spoken of. -/
def IsFresh (r : InstrRecord) (w : IWord) (pc : Word) : Prop :=
  r.raw = w ∧ r.pc = pc ∧ r.valid = true ∧ r.decoded = false ∧ r.executed = false ∧ r.hasException = false ∧
  r.executionCount = 0 ∧ r.cycleCount = 0

/-- A record completed with a result (R242, R243): the result fields taken over, marked executed, one execution counted, and
the latency of the record as it then stands added. -/
def completedWith (r : InstrRecord) (res : ExecResult) : InstrRecord :=
  let done : InstrRecord := { r with
    loadValue := res.loadValue, jumpTarget := res.jumpTarget, condResult := res.condResult,
    hasException := res.hasException, excVector := res.excVector, executed := true,
    executionCount := r.executionCount + 1 }
  { done with cycleCount := r.cycleCount + (Config.cycleLatency done).toNat }

/-- What a stage is after its worker has processed the instruction at its head in `c` time units (R175). -/
def Stage.worked (st : Stage) (rest : List InstrRecord) (c : Nat) : Stage :=
  { st with
    queue := rest
    freePermits := st.freePermits + 1
    stats := { st.stats with
      processed := st.stats.processed + 1, totalCycles := st.stats.totalCycles + c, queueDepth := rest.length } }

/-- What a stage is while its worker processes the instruction at its head (R175). -/
def Stage.taken (st : Stage) (rest : List InstrRecord) : Stage :=
  { st with queue := rest, stats := { st.stats with queueDepth := rest.length } }

/-- The worker of a stage processes an instruction next: Running, no flush to handle, the instruction at the head (R174). -/
def State.worksOn (s : State) (id : StageId) (r : InstrRecord) (rest : List InstrRecord) : Prop :=
  (s.stages.get id).life = .running ∧ (s.stages.get id).flushFlag = false ∧ (s.stages.get id).queue = r :: rest

/-- A stage accepts a submit: Running, a free permit, room in the queue (R173). -/
abbrev State.accepts (s : State) (id : StageId) : Prop :=
  (s.stages.get id).life = .running ∧ (s.stages.get id).freePermits ≠ 0 ∧
    (s.stages.get id).queue.length ≠ s.cfg.queueCap.get id

/-- A stage that an instruction has been forwarded to: the instruction is at its tail where the stage accepts it (R173), else
dropped with one backpressure count (R178). -/
def State.receiving (s : State) (id : StageId) (r : InstrRecord) : Stage :=
  let st := s.stages.get id
  if s.accepts id then
    { st with
      freePermits := st.freePermits - 1, queue := st.queue ++ [r],
      stats := { st.stats with queueDepth := st.queue.length + 1 } }
  else { st with stats := { st.stats with backpressureEvents := st.stats.backpressureEvents + 1 } }

/-- The event of a forward to a stage: none where the stage accepts it, else its backpressure event (R178). -/
def State.dropEvents (s : State) (id : StageId) : List Event := if s.accepts id then [] else [.backpressure id]

/-- A stage whose flush flag a controller flush has raised, where it is Running (R290). -/
def Stage.flagged (st : Stage) : Stage := { st with flushFlag := st.flushFlag || st.life == .running }

/-- The next draw of the pipeline (R16). -/
def State.nextDraw (s : State) : Nat := (s.draws.next Config.freeDraw).1

/-- The draws after the next one. -/
def State.restDraws (s : State) : Draws := (s.draws.next Config.freeDraw).2

/-- The next value of a stream of draws of the pipeline (R16). -/
def Draws.value (d : Draws) : Nat := (d.next Config.freeDraw).1

/-- The stream after its next value. -/
def Draws.rest (d : Draws) : Draws := (d.next Config.freeDraw).2

/-- Register 31 of either bank with other contents of its slot (R341: the registers' contents are an input). -/
def State.withSlot31 (s : State) (v w : Word) : State :=
  { s with ints := s.ints.set 31 v, floats := s.floats.set 31 w }

/-! ## Terms of the statements about Fetch (R204, R206, R207) -/

/-- `readWord` at an address answers `w`, the hierarchy or memory `m` and the draws `d` becoming `m'` and `d'` (R206): an
instruction-fetch access of 4 bytes through the hierarchy, which never fails; or main memory itself, where a draw says
whether it fails. -/
def ReadsWord (c : Config) (a : Word) (m : MemSys) (d : Draws) (w : Option IWord) (m' : MemSys) (d' : Draws) : Prop :=
  match c.fetchSource with
  | .hierarchy => d' = d ∧ ∃ b : List Byte, cacheRead c .fetch a 4 m = some (b, m') ∧ w = some (leIWord b)
  | .memory => m' = m ∧ d' = d.rest ∧ w = if d.value % 2 = 1 then none else some (leIWord (m.mem.readBytes a 4))

/-- `fc'` is the fetch cache `fc` with a word installed in slot `k` of a PC's line, by what every lookup gives: another line
is as before; the line itself answers for the PC's tag alone, with the word in its slot and in every other slot what a
lookup gave before, which is nothing where the line held another tag and was zeroed (R204; conflict C3). -/
def Installed (c : Config) (fc : List FcEntry) (pc : Word) (k : Nat) (v : IWord) (fc' : List FcEntry) : Prop :=
  ∀ (q : Word) (j : Nat), fcLookup c fc' q j =
    if fcIndex c q ≠ fcIndex c pc then fcLookup c fc q j
    else if fcTag c q ≠ fcTag c pc then none
    else if j = k then some v
    else fcLookup c fc q j

/-- The prefetch after a fetch at a PC (R207): within the window at the end of a line, the first word of the next line is
read where the fetch cache has not got it, and installed where the read does not fail; else nothing happens. -/
def Prefetches (c : Config) (pc : Word) (fc : List FcEntry) (m : MemSys) (d : Draws) (fc' : List FcEntry) (m' : MemSys)
    (d' : Draws) : Prop :=
  let past := pc.toNat % c.fcLineSize
  let p : Word := pc - BitVec.ofNat 64 past + BitVec.ofNat 64 c.fcLineSize
  if c.fcLineSize - c.prefetchWindow ≤ past ∧ fcLookup c fc p 0 = none then
    ∃ w : Option IWord, ReadsWord c p m d w m' d' ∧
      match w with
      | some v => Installed c fc p 0 v fc'
      | none => fc' = fc
  else fc' = fc ∧ m' = m ∧ d' = d

/-- The response of a command that has no result (R103). -/
def replyOk : Option Response := some ⟨.ok, 0, []⟩

/-- The response of a refused command (R103). -/
def replyError (c : Status) : Option Response := some ⟨c, 0, []⟩

/-- The response of a command with a result (R103). -/
def replyWith (r : Word) : Option Response := some ⟨.ok, r, []⟩

/-! ## Safe steps -/

/-- A step that answers a next state. -/
def State.stepsOn (s : State) : Prop := ∃ t, step s = .next t

/-- The state of a result, where it is a next state. -/
def nextOf : Result → Option State
  | .next s => some s
  | .fault _ => none
  | .refused _ => none

/-- The instructions of a list run one after another, where each answers a next state. -/
def runInstrs : List Instr → State → Option State
  | [], s => some s
  | i :: is, s => (nextOf (exec i s)).bind (runInstrs is)

end Sys2Proof.Machine
end

