-- ==== Sys2Proof/Certificates/Slice0/Obligations.lean ====
section
/-! DEFINITION. The statements for the provers: what the numbered rules of the spec say the machine does. -/

open Sys2Proof Sys2Proof.Machine

/-! ## Encoding -/

/-- Decode and encode agree: a well-formed instruction, command or instruction word, decodes from its encoding, with
every operand at every value the encoding admits; and every instruction word is the encoding of what it decodes to, so
no bit of a word is dropped (R100 to R111, R120, R124). -/
def Obligations.DecodeOfEncode : Prop :=
  (∀ (cfg : Config) (i : Instr), i.wellFormed cfg = true → decode (encode i) = .ok i) ∧
  ∀ w : IWord, encode (decodeWord w) = .word w

/-- Words written out in the spec decode to what the spec says they are (R125; 95_test_vectors.md sections 0, 2.4, 2.8). -/
def Obligations.SpecWordsDecode : Prop :=
  decodeWord 0x47FF041F = .nopWord ∧
  decodeWord 0xA4228000 = .memory20 9 1 2 0x8000 ∧
  decodeWord 0x20410010 = .memory08 0 2 1 0x10 ∧
  decodeWord 0xE43FFFFF = .branch30 9 1 0x1FFFFF ∧
  decodeWord 0x40220403 = .operate10 0 1 (.reg 2 0) 0x20 3 ∧
  decodeWord 0x4020B403 = .operate10 0 1 (.lit 5) 0x20 3 ∧
  decodeWord 0x6BFA8001 = .jump1A 31 26 2 1 ∧
  decodeWord 0x00000083 = .misc00 0 0 0x83 ∧
  decodeWord 0x04000000 = .invalid01 0 ∧
  decodePacket (plainPacket 0x1301 0 0) = .ok (.sStep .d) ∧
  decodePacket (plainPacket 0x1711 0 0) = .ok (.sRdstat .d .backpressureEvents) ∧
  decodePacket (plainPacket 0x040F 0 0) = .ok (.cRdstat .l3 .writebacks) ∧
  decodePacket (plainPacket 0xF000 0 0) = .ok .reset

/-- A command word that matches no row of R106 and R107 is refused with `ERR_ILLEGAL` and changes no state of the block (R111).
The rest of what the step does is the model's choice, log entry 6: the packet leaves the port, one scheduling draw is used
up, and the response is held. -/
def Obligations.ReservedWordRefused : Prop :=
  ∀ (s : State) (p : Packet), s.cfg.ok = true → s.turn = some (.command p) → isCommandWord p.cw = false →
    step s = .next { s with port := s.port.tail, draws := s.restDraws, resp := replyError .errIllegal }

/-! ## The step -/

/-- A step runs the decoded instruction: where the command at the port goes next and decodes to `i`, the step is `exec` of
`i` (of the instruction word at Decode's head, where `i` is a step of Decode's worker) on the state with the packet taken
off the port; where an agent goes next, the step is `exec` of its transition, and the last response stands. The model's
own choices in it: one scheduling draw is used at every step and the last response stands while agents run (log entry 6);
a step of Decode's worker runs the instruction word at its head (log entry 9). -/
def Obligations.StepRunsDecoded : Prop :=
  (∀ (s : State) (p : Packet) (i : Instr), s.cfg.ok = true → s.turn = some (.command p) → decodePacket p = .ok i →
    let t : State := { s with port := s.port.tail, draws := s.restDraws }
    step s = exec (t.refine i) t) ∧
  (∀ (s : State) (i : Instr), s.cfg.ok = true → s.turn = some (.agent i) →
    let t : State := { s with draws := s.restDraws }
    step s = keepResponse s.resp (exec (t.refine i) t))

/-- A step of Decode's worker on a record is the meaning of the record's instruction word. That an instruction word's meaning
is the Decode worker's iteration (R174, R175, R220) is the model's choice: log entry 9. -/
def Obligations.DecodeStepRunsWord : Prop :=
  ∀ (s : State) (w : IWord), s.decodeHead = some w → exec (.sStep .d) s = exec (decodeWord w) s

/-- An instruction placed by `withFetchWord` is the one the next step runs: a command on the state with one scheduling draw
used, an instruction word on the state whose Decode stage holds it at its head. How an instruction is placed, and the
scheduling draw of 0 that comes with it, are the model's choice: log entries 7 and 6, and 9 for instruction words. -/
def Obligations.PlacedInstructionRuns : Prop :=
  ∀ (s : State) (nbits w : Nat) (i : Instr), s.cfg.ok = true → decodeTableWord nbits w = some i →
    let d : Draws := { s.draws with count := s.draws.count + 1 }
    (nbits ≠ 32 → step (s.withFetchWord nbits w) = exec i { s with draws := d }) ∧
    (nbits = 32 → step (s.withFetchWord nbits w) =
      exec i { s with
        stages := s.stages.set .d ((s.stages.get .d).withWord s.fetch.nextPC (BitVec.ofNat 32 w))
        draws := d })

/-- Between agents there is no priority: whichever transition is enabled, and the command at the port, may go next (R18, R104,
R321 (g)). The packets of every outside party wait at one port, in one order: log entry 27. Enabled are exactly: a worker iteration of each Running stage (R174), the completion of each pending heavy operation
(R247), the timer unless the controller is Stopped (R296), and the controller's progress step in Starting with every stage
Running, in Stopping with every stage Stopped, and in Exception (R287). That the choice is a draw, and that an id is named by
its low 64 bits, is log entry 6. -/
def Obligations.AnyEnabledMayGo : Prop :=
  (∀ (s : State) (i : Instr), i ∈ s.enabled ↔
    (∃ id, i = .sStep id ∧ (s.stages.get id).life = .running) ∨
    (∃ p ∈ s.ex.pendingHeavy, i = .xComplete (BitVec.ofNat 64 p.1)) ∨
    (i = .kTick ∧ s.ctrl.pstate ≠ .stopped) ∨
    (i = .kAdvance ∧ (s.ctrl.pstate = .starting ∧ (∀ id, (s.stages.get id).life = .running) ∨
      s.ctrl.pstate = .stopping ∧ (∀ id, (s.stages.get id).life = .stopped) ∨ s.ctrl.pstate = .exception))) ∧
  (∀ (s : State) (i : Instr), i ∈ s.enabled →
    ∃ n, ({ s with draws := { s.draws with given := n :: s.draws.given } } : State).turn = some (.agent i)) ∧
  (∀ (s : State) (p : Packet) (rest : List Packet), s.port = p :: rest →
    ∃ n, ({ s with draws := { s.draws with given := n :: s.draws.given } } : State).turn = some (.command p))

/-! ## Invariants -/

/-- Every step keeps the cache hierarchy good: the shapes of R21, R23 and R26, the consistency of R22, at most one valid line
per tag in a set (R28), distinct stamps (R137), no dirty line in L1I (R134), and main memory in its canonical form. -/
def Obligations.StepKeepsHierarchy : Prop :=
  ∀ s t : State, s.sys.good s.cfg → step s = .next t → t.sys.good t.cfg

/-- Every step keeps the value rule's ground: with data accesses through the hierarchy, clean copies along the data chain
agree with what lies below them (R82). -/
def Obligations.StepKeepsCoherence : Prop :=
  ∀ s t : State, s.cfg.dataPath = .hierarchy → s.sys.good s.cfg → s.sys.coherent s.cfg → step s = .next t →
    t.sys.coherent t.cfg

/-- Every step keeps the arbiter good: the gate's count, the queue's bound and its depth (R30, R31, R32), nothing queued at a
stage that does not run, the bounds of `pendingFlush`, and the samples and ticks of the controller (R48, R49). -/
def Obligations.StepKeepsArbiter : Prop := ∀ s t : State, s.arbiterGood → step s = .next t → t.arbiterGood

/-- Every step keeps `nextPC` and a pending redirect multiples of 4 (R209) and the fetch cache in its shape (R37). -/
def Obligations.StepKeepsFetch : Prop := ∀ s t : State, s.fetchGood → step s = .next t → t.fetchGood

/-- Every step keeps the ids of pending heavy operations apart (R40) and the tier table's account: one record per PC, one
trigger for each PC that has requested a compilation, and no request below the threshold (R41, R252, R257). -/
def Obligations.StepKeepsExecute : Prop := ∀ s t : State, s.execGood → step s = .next t → t.execGood

/-- Every step keeps the exception log bounded in length and age (R45, R273). -/
def Obligations.StepKeepsLog : Prop := ∀ s t : State, s.logGood → step s = .next t → t.logGood

/-- The state after reset meets every invariant, with a legal configuration. The configuration is the model's choice (log
entry 1). -/
def Obligations.ResetIsGood : Prop :=
  State.reset.cfg.ok = true ∧ State.reset.sys.good State.reset.cfg ∧ State.reset.sys.coherent State.reset.cfg ∧
  State.reset.arbiterGood ∧ State.reset.fetchGood ∧ State.reset.execGood ∧ State.reset.logGood

/-- No instruction writes the configuration (R341) or register 31 of either bank (R244), and none but `RESET` takes an event
off the stream (R58). -/
def Obligations.NothingWritesThese : Prop :=
  ∀ (i : Instr) (s t : State), exec i s = .next t →
    t.cfg = s.cfg ∧ t.ints[31] = s.ints[31] ∧ t.floats[31] = s.floats[31] ∧
    (i = .reset ∨ ∃ l, t.events = s.events ++ l)

/-- A command that is refused has changed no state: whatever the instruction, an error response has no result, and the
state is as it was but for the response; and every instruction answers (R16, R103, R314). -/
def Obligations.RefusalsChangeNothing : Prop :=
  ∀ (i : Instr) (s : State), ∃ (t : State) (p : Response), exec i s = .next t ∧ t.resp = some p ∧
    (p.status ≠ .ok → p.status ≠ .rejected → p.r = 0 ∧ p.q = [] ∧ t = { s with resp := some p })

/-- The controller moves only as its transition table and its recovery say, whatever instruction runs; `RESET` takes it to
Stopped (R285, R294). -/
def Obligations.ControllerTransitions : Prop :=
  ∀ (i : Instr) (s t : State), exec i s = .next t →
    (i = .reset → t.ctrl.pstate = .stopped) ∧ (i ≠ .reset → s.ctrl.pstate.mayBecome t.ctrl.pstate)

/-! ## Reset -/

/-- `RESET` puts every piece of state of the block at its reset value, and leaves main memory, the registers, the trace sent
to the JitCompiler and the configuration as they are (R66, R340, R341). That the command port, the streams of draws and the
response `OK` are as said is log entry 14, and the JitCompiler's trace is log entry 15: the model's choices. -/
def Obligations.ResetCommand : Prop :=
  decodePacket (plainPacket 0xF000 0 0) = .ok .reset ∧
  ∀ s : State, ∃ t : State, exec .reset s = .next t ∧ t.resp = replyOk ∧ t.readInt 31 = 0 ∧ t.readFloat 31 = 0 ∧
    t.cfg = s.cfg ∧ t.ints = s.ints ∧ t.floats = s.floats ∧ t.jitTrace = s.jitTrace ∧ t.port = s.port ∧
    t.draws = s.draws ∧ t.sys.mem = s.sys.mem ∧ t.sys.victims = s.sys.victims ∧
    (∀ l, (t.sys.level l).hits = 0 ∧ (t.sys.level l).misses = 0 ∧ (t.sys.level l).evictions = 0 ∧
      (t.sys.level l).writebacks = 0 ∧ (t.sys.level l).sets.length = s.cfg.numSets l ∧
      ∀ st ∈ (t.sys.level l).sets, st.accessCounter = 0 ∧ st.ways.length = s.cfg.assoc.get l ∧
        ∀ ln ∈ st.ways, ln = ⟨0, false, false, .invalid, 0, List.replicate s.cfg.lineSize 0⟩) ∧
    (∀ id, t.stages.get id =
      ⟨.stopped, [], false, s.cfg.maxInFlightInit.get id, s.cfg.maxInFlightInit.get id, ⟨0, 0, 0, 0, 0⟩⟩) ∧
    t.fetch.nextPC = s.cfg.resetPC ∧ t.fetch.branchTarget = none ∧ t.fetch.fcHits = 0 ∧ t.fetch.fcMisses = 0 ∧
    t.fetch.fc.length = s.cfg.fcLines ∧
    (∀ e ∈ t.fetch.fc, e = ⟨false, 0, List.replicate (s.cfg.fcLineSize / 4) false,
      List.replicate (s.cfg.fcLineSize / 4) 0⟩) ∧
    t.ex = ⟨[], 0, 0, [], 0, 0, 0⟩ ∧ t.wb = ⟨0, 0, 0, 0, 0, [], 0⟩ ∧
    t.ctrl = ⟨.stopped, 0, false, ⟨[], [], [], []⟩, 0, []⟩ ∧ t.events = []

/-! ## The cache hierarchy -/

/-- For all addresses and all legal geometries, `decompose` then `compose` gives the address back, and with offset 0 the line
address, at every level (R132). -/
def Obligations.DecomposeCompose : Prop :=
  ∀ (c : Config) (l : Level) (a : Word), c.ok = true →
    c.compose l (c.tagOf l a) (c.indexOf l a) (c.offsetOf a) = a ∧
    c.compose l (c.tagOf l a) (c.indexOf l a) 0 = c.lineAddr a ∧
    c.lineAddr a = a &&& ~~~ BitVec.ofNat 64 (c.lineSize - 1) ∧
    ∀ (tag : Word) (index offset : Nat), c.compose l tag index offset =
      (tag <<< (c.offsetBits + c.indexBits l)) ||| (BitVec.ofNat 64 index <<< c.offsetBits) ||| BitVec.ofNat 64 offset

/-- A legal `C.READ` or `C.IFETCH` completes and returns, for each byte, what the first valid copy along its chain holds,
else main memory; the current value of every byte stays, and nothing but the hierarchy and the response changes (R82,
R134, R140). The hierarchy it leaves is that of a read at L1D or L1I, which at every level is as follows. A hit returns the
line's bytes and is one hit and one access of the set, with the way restamped; nothing else of the hierarchy changes (R135,
R137, R139). A miss pulls the line from below, is one miss and one access of the set, one eviction where the victim on the
set as it is after the pull is valid, and one writeback where that line is dirty too; the victim's way then holds the line,
clean, stamped, with the bytes pulled, Shared where another level holds the line, else Exclusive. Every other line of the
level, and the other levels and main memory whole, are as the victim's going left them: as the pull left them where nothing
is written back, else as the write of the victim's line to the next level leaves them; of the other lines of the level
neither the pull nor that write touches more than a Shared one, which it may invalidate (R137, R142, R144, R145, R154). -/
def Obligations.ReadsReturnFirstCopy : Prop :=
  (∀ (s : State) (addr size : Word), s.cfg.ok = true → s.sys.good s.cfg → s.cfg.legal addr size.toNat = true →
    (∃ (m : MemSys) (q : List Byte), (q, m) = access s.cfg Level.l1d.chain (.read addr size.toNat) s.sys ∧
      exec (.cRead addr size) s = .next { s with sys := m, resp := some ⟨.ok, 0, q⟩ } ∧ q.length = size.toNat ∧
      (∀ k < size.toNat, q.getD k 0 = s.sys.current s.cfg (addr + BitVec.ofNat 64 k)) ∧
      (s.sys.coherent s.cfg → ∀ a, m.current s.cfg a = s.sys.current s.cfg a)) ∧
    (∃ (m : MemSys) (q : List Byte), (q, m) = access s.cfg Level.l1i.chain (.read addr size.toNat) s.sys ∧
      exec (.cIfetch addr size) s = .next { s with sys := m, resp := some ⟨.ok, 0, q⟩ } ∧ q.length = size.toNat ∧
      (∀ k < size.toNat,
        q.getD k 0 = s.sys.byteFrom s.cfg Level.l1i.chain (addr + BitVec.ofNat 64 k)) ∧
      (s.sys.coherent s.cfg → ∀ a, m.current s.cfg a = s.sys.current s.cfg a))) ∧
  ∀ (c : Config) (l : Level) (m : MemSys) (a : Word) (n : Nat), c.ok = true → m.good c → c.legal a n = true →
    let i := c.indexOf l a
    let o := c.offsetOf a
    let got := access c l.chain (.read a n) m
    (∀ w, m.hitsIn c l a w →
      got = (((m.line l i w).data.drop o).take n, m.afterHit l i w (m.line l i w))) ∧
    ((∀ w, ¬ m.hitsIn c l a w) →
      let pulled := access c l.below (.read (c.lineAddr a) c.lineSize) (m.afterMiss l i)
      let v := (victim c l i pulled.2).1
      let old := pulled.2.line l i v
      let out := (victim c l i pulled.2).2.takenOut c l i v 1
      let t := got.2
      got.1 = (pulled.1.drop o).take n ∧ v < c.assoc.get l ∧
      (m.level l).missCounted old (t.level l) ∧
      (t.setAt l i).accessCounter = (m.setAt l i).accessCounter + 1 ∧
      ((∃ l' ≠ l, t.copyAt c l' a ≠ none) → t.line l i v =
        ⟨c.tagOf l a, true, false, .shared, (m.setAt l i).accessCounter + 1, pulled.1⟩) ∧
      ((∀ l' ≠ l, t.copyAt c l' a = none) → t.line l i v =
        ⟨c.tagOf l a, true, false, .exclusive, (m.setAt l i).accessCounter + 1, pulled.1⟩) ∧
      (old.dirty = false → t.mem = pulled.2.mem ∧ ∀ l' ≠ l, t.level l' = pulled.2.level l') ∧
      t.mem = out.mem ∧ t.victims = out.victims ∧ (∀ l' ≠ l, t.level l' = out.level l') ∧
      (∀ j ≠ i, (t.setAt l j).accessCounter = (m.setAt l j).accessCounter) ∧
      ∀ j u, j ≠ i ∨ u ≠ v → t.line l j u = out.line l j u ∧ (m.line l j u).keptOrDropped (pulled.2.line l j u) ∧
        (pulled.2.line l j u).keptOrDropped (t.line l j u) ∧ (old.dirty = false → t.line l j u = pulled.2.line l j u))

/-- A legal `C.WRITE` completes; the current value of each byte it covers is the byte written, that of every other byte is as
before, and nothing but the hierarchy and the response changes (R82, R141). Afterwards the L1D copy is valid, dirty and
Modified, and no other level holds a Shared copy of the line (R141, R145). The hierarchy it leaves is that of a write at L1D,
which at every level is as follows. A hit is one hit and one access of the set, with the way restamped, its bytes stored,
dirty and Modified; at every other level nothing changes but that a Shared copy of the line is invalidated, and main memory
is not touched (R137, R139, R145). A miss is counted as for a read, and the victim's way then holds the bytes pulled from
below with the bytes written stored in them, stamped, dirty and Modified; all else is as a read's miss leaves it, but that at
every other level a Shared copy of the line is invalidated (R137, R141, R142, R144, R145). -/
def Obligations.WriteSetsCurrent : Prop :=
  (∀ (s : State) (addr size : Word) (bytes : List Byte), s.cfg.ok = true → s.sys.good s.cfg →
    s.sys.coherent s.cfg → s.cfg.legal addr size.toNat = true → bytes.length = size.toNat →
    let m : MemSys := (access s.cfg Level.l1d.chain (.write addr bytes) s.sys).2
    exec (.cWrite addr size bytes) s = .next { s with sys := m, resp := replyOk } ∧
    (∀ k < size.toNat, m.current s.cfg (addr + BitVec.ofNat 64 k) = bytes.getD k 0) ∧
    (∀ a, ¬ within addr size.toNat a → m.current s.cfg a = s.sys.current s.cfg a) ∧
    (∃ ln, m.copyAt s.cfg .l1d addr = some ln ∧ ln.valid = true ∧ ln.dirty = true ∧ ln.state = .modified) ∧
    ∀ l ≠ .l1d, ∀ ln, m.copyAt s.cfg l addr = some ln → ln.state ≠ .shared) ∧
  ∀ (c : Config) (l : Level) (m : MemSys) (a : Word) (bytes : List Byte), c.ok = true → m.good c →
    c.legal a bytes.length = true →
    let i := c.indexOf l a
    let o := c.offsetOf a
    let t := (access c l.chain (.write a bytes) m).2
    (∀ l' ≠ l, ∀ ln, t.copyAt c l' a = some ln → ln.state ≠ .shared) ∧
    (∀ w, m.hitsIn c l a w →
      let ln := m.line l i w
      t.level l = (m.afterHit l i w { ln with
        data := ln.data.take o ++ bytes ++ ln.data.drop (o + bytes.length), dirty := true, state := .modified }).level l ∧
      t.mem = m.mem ∧ t.victims = m.victims ∧
      ∀ l' ≠ l, (t.level l').hits = (m.level l').hits ∧ (t.level l').misses = (m.level l').misses ∧
        (t.level l').evictions = (m.level l').evictions ∧ (t.level l').writebacks = (m.level l').writebacks ∧
        ∀ j, (t.setAt l' j).accessCounter = (m.setAt l' j).accessCounter ∧
          ∀ v, t.line l' j v = (m.line l' j v).afterWriteElsewhere c l' a j) ∧
    ((∀ w, ¬ m.hitsIn c l a w) →
      let pulled := access c l.below (.read (c.lineAddr a) c.lineSize) (m.afterMiss l i)
      let v := (victim c l i pulled.2).1
      let out := (victim c l i pulled.2).2.takenOut c l i v 1
      (m.level l).missCounted (pulled.2.line l i v) (t.level l) ∧
      (t.setAt l i).accessCounter = (m.setAt l i).accessCounter + 1 ∧
      t.line l i v = ⟨c.tagOf l a, true, true, .modified, (m.setAt l i).accessCounter + 1,
        pulled.1.take o ++ bytes ++ pulled.1.drop (o + bytes.length)⟩ ∧
      t.mem = out.mem ∧ t.victims = out.victims ∧
      (∀ l' ≠ l, (t.level l').hits = (out.level l').hits ∧ (t.level l').misses = (out.level l').misses ∧
        (t.level l').evictions = (out.level l').evictions ∧ (t.level l').writebacks = (out.level l').writebacks ∧
        ∀ j, (t.setAt l' j).accessCounter = (out.setAt l' j).accessCounter ∧
          ∀ u, t.line l' j u = (out.line l' j u).afterWriteElsewhere c l' a j) ∧
      (∀ j ≠ i, (t.setAt l j).accessCounter = (m.setAt l j).accessCounter) ∧
      ∀ j u, j ≠ i ∨ u ≠ v → t.line l j u = out.line l j u ∧ (m.line l j u).keptOrDropped (pulled.2.line l j u) ∧
        (pulled.2.line l j u).keptOrDropped (t.line l j u) ∧
        ((pulled.2.line l i v).dirty = false → t.line l j u = pulled.2.line l j u))

/-- A cache access that is not inside one line is refused with `ERR_SPAN`, and a payload that has not exactly `size` bytes with
`ERR_RANGE`: nothing changes (R133). -/
def Obligations.IllegalAccessRefused : Prop :=
  ∀ (s : State) (addr size : Word) (bytes : List Byte),
    (s.cfg.legal addr size.toNat = true ↔ 1 ≤ size.toNat ∧ size.toNat ≤ s.cfg.lineSize ∧
      (addr &&& BitVec.ofNat 64 (s.cfg.lineSize - 1)).toNat + size.toNat ≤ s.cfg.lineSize) ∧
    (s.cfg.legal addr size.toNat = false →
      exec (.cRead addr size) s = .next { s with resp := replyError .errSpan } ∧
      exec (.cIfetch addr size) s = .next { s with resp := replyError .errSpan } ∧
      exec (.cWrite addr size bytes) s = .next { s with resp := replyError .errSpan }) ∧
    (s.cfg.legal addr size.toNat = true → bytes.length ≠ size.toNat →
      exec (.cWrite addr size bytes) s = .next { s with resp := replyError .errRange })

/-- After `C.FLUSHALL` no line is valid at any level and main memory holds the current value of every byte; nothing but the
hierarchy and the response changes (R84, R147). It writes back and invalidates every way of every level, in order (R147).
For one way that is: an invalid one is left alone; a valid one is invalidated, with its tag, stamp and data as they were, no
hit, miss, eviction or access counted at its level, and one writeback where it was dirty; its bytes are then written to the
next level, and are what the levels below answer; where it was clean no other level and no byte of memory changes. Of the
other lines of its level no more than a Shared one is touched, which that write may invalidate (R145, R146). -/
def Obligations.FlushAllWritesBack : Prop :=
  (∀ s : State, s.cfg.ok = true → s.sys.good s.cfg → s.sys.coherent s.cfg →
    let m := forEachWay s.cfg (fun l i w => writebackInvalidate s.cfg (access s.cfg l.below) l i w) s.sys
    exec .cFlushall s = .next { s with sys := m, resp := replyOk } ∧ m.noneValid ∧
    ∀ a : Word, m.mem.readByte a.toNat = s.sys.current s.cfg a) ∧
  ∀ (c : Config) (l : Level) (i w : Nat) (m : MemSys), c.ok = true → m.good c → i < c.numSets l → w < c.assoc.get l →
    let ln := m.line l i w
    let t := writebackInvalidate c (access c l.below) l i w m
    (ln.valid = false → t = m) ∧
    (ln.valid = true →
      t.line l i w = { ln with valid := false, dirty := false, state := .invalid } ∧
      (t.level l).hits = (m.level l).hits ∧ (t.level l).misses = (m.level l).misses ∧
      (t.level l).evictions = (m.level l).evictions ∧
      (t.level l).writebacks = (m.level l).writebacks + (if ln.dirty then 1 else 0) ∧
      (∀ j, (t.setAt l j).accessCounter = (m.setAt l j).accessCounter) ∧
      (ln.dirty = true → ∀ k < c.lineSize,
        t.byteFrom c l.below (c.compose l ln.tag i k) = ln.data.getD k 0) ∧
      (ln.dirty = false → t.mem = m.mem ∧ t.victims = m.victims ∧ ∀ l' ≠ l, t.level l' = m.level l') ∧
      t = m.takenOut c l i w 0 ∧
      ∀ j u, j ≠ i ∨ u ≠ w → (m.line l j u).keptOrDropped (t.line l j u) ∧
        (ln.dirty = false → t.line l j u = m.line l j u))

/-- A second consecutive `C.FLUSHALL` changes nothing at all: no further writeback (R147). -/
def Obligations.FlushAllTwice : Prop :=
  ∀ s t : State, s.cfg.ok = true → s.sys.good s.cfg → exec .cFlushall s = .next t → exec .cFlushall t = .next t

/-- `C.INVRANGE`: an empty range answers `OK`; a range past 2^64 is refused with `ERR_RANGE`; otherwise, for every byte of every
line that overlaps the range, main memory holds the current value and no level holds a valid copy, and the current
value of every byte stays (R84, R148). It takes out, with a writeback where it is dirty and no eviction counted, each valid
line whose line address is in the range, level by level, set by set, way by way, and no other (R146, R148). So where the
lines in the range are clean they are invalidated, with their tags, stamps and data as they were, and nothing else of the
hierarchy changes: not a line outside the range, not a counter of a level or a set, not a byte of main memory. -/
def Obligations.InvalidateRange : Prop :=
  ∀ (s : State) (addr len : Word),
    (len = 0 → exec (.cInvrange addr len) s = .next { s with resp := replyOk }) ∧
    (len ≠ 0 → 2 ^ 64 < addr.toNat + len.toNat →
      exec (.cInvrange addr len) s = .next { s with resp := replyError .errRange }) ∧
    (len ≠ 0 → addr.toNat + len.toNat ≤ 2 ^ 64 → s.cfg.ok = true → s.sys.good s.cfg → s.sys.coherent s.cfg →
      let lo := s.cfg.lineAddr addr
      let hi := s.cfg.lineAddr (addr + len - 1)
      let m : MemSys := forEachWay s.cfg (fun l i w x =>
        if (x.line l i w).valid = true ∧ lo ≤ s.cfg.compose l (x.line l i w).tag i 0 ∧
            s.cfg.compose l (x.line l i w).tag i 0 ≤ hi then
          x.takenOut s.cfg l i w 0
        else x) s.sys
      let inside (l : Level) (i w : Nat) : Prop := (s.sys.line l i w).valid = true ∧
        lo ≤ s.cfg.compose l (s.sys.line l i w).tag i 0 ∧ s.cfg.compose l (s.sys.line l i w).tag i 0 ≤ hi
      exec (.cInvrange addr len) s = .next { s with sys := m, resp := replyOk } ∧
        (∀ a, s.cfg.lineAddr addr ≤ s.cfg.lineAddr a → s.cfg.lineAddr a ≤ s.cfg.lineAddr (addr + len - 1) →
          m.mem.readByte a.toNat = s.sys.current s.cfg a ∧ ∀ l, m.copyAt s.cfg l a = none) ∧
        (∀ a, m.current s.cfg a = s.sys.current s.cfg a) ∧
        ((∀ l i w, inside l i w → (s.sys.line l i w).dirty = false) →
          m.mem = s.sys.mem ∧ m.victims = s.sys.victims ∧
          ∀ l, (m.level l).hits = (s.sys.level l).hits ∧ (m.level l).misses = (s.sys.level l).misses ∧
            (m.level l).evictions = (s.sys.level l).evictions ∧
            (m.level l).writebacks = (s.sys.level l).writebacks ∧
            ∀ i, (m.setAt l i).accessCounter = (s.sys.setAt l i).accessCounter ∧
              ∀ w, (inside l i w → m.line l i w = { s.sys.line l i w with valid := false, state := .invalid }) ∧
                (¬ inside l i w → m.line l i w = s.sys.line l i w)))

/-- `C.VALIDATE` answers 1 exactly where no line address is the line address of two valid lines among the tracked levels, else
0, and changes nothing (R151). -/
def Obligations.ValidateAnswers : Prop :=
  ∀ s : State, ∃ r : Word, exec .cValidate s = .next { s with resp := replyWith r } ∧ (r = 1 ∨ r = 0) ∧
    (r = 1 ↔ ∀ (l l' : Level) (i i' w w' : Nat), s.cfg.tracked.get l = true → s.cfg.tracked.get l' = true →
      (s.sys.line l i w).valid = true → (s.sys.line l' i' w').valid = true →
      s.cfg.compose l (s.sys.line l i w).tag i 0 = s.cfg.compose l' (s.sys.line l' i' w').tag i' 0 →
      l = l' ∧ i = i' ∧ w = w')

/-- The victim: the lowest-numbered invalid way under either policy; else, with LRU, the way with the smallest stamp, the lowest
of equals; else, with Random, any way (R143). -/
def Obligations.VictimChoice : Prop :=
  ∀ (c : Config) (l : Level) (i : Nat) (m : MemSys), (m.setAt l i).ways.length = c.assoc.get l → 1 ≤ c.assoc.get l →
    (victim c l i m).1 < c.assoc.get l ∧
    ((∃ w < c.assoc.get l, (m.line l i w).valid = false) →
      (m.line l i (victim c l i m).1).valid = false ∧
      ∀ w < (victim c l i m).1, (m.line l i w).valid = true) ∧
    ((∀ w < c.assoc.get l, (m.line l i w).valid = true) → c.repl.get l = .lru →
      (∀ w < c.assoc.get l, (m.line l i (victim c l i m).1).lastAccess ≤ (m.line l i w).lastAccess) ∧
      ∀ w < (victim c l i m).1, (m.line l i (victim c l i m).1).lastAccess < (m.line l i w).lastAccess) ∧
    ((∀ w < c.assoc.get l, (m.line l i w).valid = true) → c.repl.get l = .random →
      ∀ w < c.assoc.get l, ∃ n,
        (victim c l i { m with victims := { m.victims with given := n :: m.victims.given } }).1 = w)

/-! ## The stages -/

/-- `S.SUBMIT`: accepted exactly where the stage is Running, has a free permit and has room, and then the permit is taken and the
instruction goes to the tail; else rejected, with one backpressure count and event (R173). -/
def Obligations.SubmitRule : Prop :=
  ∀ (id : StageId) (r : InstrRecord) (s : State),
    let st := s.stages.get id
    (∀ a b, decodePacket ⟨0x1200 ||| id.code.setWidth 16, a, b, .record r⟩ = .ok (.sSubmit id r)) ∧
    (s.accepts id → exec (.sSubmit id r) s = .next { s with
      stages := s.stages.set id { st with
        freePermits := st.freePermits - 1, queue := st.queue ++ [r],
        stats := { st.stats with queueDepth := st.queue.length + 1 } }
      resp := replyOk }) ∧
    (¬ s.accepts id → exec (.sSubmit id r) s = .next { s with
      stages := s.stages.set id { st with
        stats := { st.stats with backpressureEvents := st.stats.backpressureEvents + 1 } }
      events := s.events ++ [.backpressure id]
      resp := some ⟨.rejected, 0, []⟩ })

/-- For a stage with `maxInFlight = N` and room for N, submitting N + 1 instructions with none dequeued yields exactly one
rejection with a backpressure event, and N admitted instructions; and after every step of a good state no queue is longer
than the stage's limit and its capacity (R185). -/
def Obligations.AdmissionProperty : Prop :=
  (∀ (s : State) (id : StageId) (rs : List InstrRecord) (r : InstrRecord),
    (s.stages.get id).life = .running → (s.stages.get id).queue = [] →
    (s.stages.get id).freePermits = (s.stages.get id).maxInFlight → rs.length = (s.stages.get id).maxInFlight →
    (s.stages.get id).maxInFlight ≤ s.cfg.queueCap.get id →
    ∃ t u : State, runInstrs (rs.map (.sSubmit id)) s = some t ∧ exec (.sSubmit id r) t = .next u ∧
      (t.stages.get id).queue = rs ∧ (t.stages.get id).freePermits = 0 ∧ t.events = s.events ∧
      (t.stages.get id).stats.backpressureEvents = (s.stages.get id).stats.backpressureEvents ∧
      (u.stages.get id).queue = rs ∧ u.resp = some ⟨.rejected, 0, []⟩ ∧
      u.events = s.events ++ [.backpressure id] ∧
      (u.stages.get id).stats.backpressureEvents = (s.stages.get id).stats.backpressureEvents + 1) ∧
  ∀ (s t : State) (id : StageId), s.arbiterGood → step s = .next t →
    (t.stages.get id).queue.length ≤ min (t.stages.get id).maxInFlight (t.cfg.queueCap.get id)

/-- `S.INIT`: a stage that is not Running becomes Ready with zero statistics, an empty queue, a full gate, no flush pending and
its private state at its reset value but for `nextPC`; a Running one is refused (R171). That Execute's `heavySeq` is reset
too is log entry 10. -/
def Obligations.InitStage : Prop :=
  ∀ (id : StageId) (s : State),
    ((s.stages.get id).life = .running → exec (.sInit id) s = .next { s with resp := replyError .errState }) ∧
    ((s.stages.get id).life ≠ .running → exec (.sInit id) s = .next { s with
      stages := s.stages.set id
        ⟨.ready, [], false, s.cfg.maxInFlightInit.get id, s.cfg.maxInFlightInit.get id, ⟨0, 0, 0, 0, 0⟩⟩
      fetch := if id = .f then
          ⟨s.fetch.nextPC, none, List.replicate s.cfg.fcLines
            ⟨false, 0, List.replicate (s.cfg.fcLineSize / 4) false, List.replicate (s.cfg.fcLineSize / 4) 0⟩, 0, 0⟩
        else s.fetch
      ex := if id = .e then ⟨[], 0, 0, [], 0, 0, 0⟩ else s.ex
      wb := if id = .w then ⟨0, 0, 0, 0, 0, [], 0⟩ else s.wb
      resp := replyOk })

/-- `S.START`: a Ready stage becomes Running and `StageStarted` is published; any other is refused (R172). `S.SHUTDOWN`: the
queue is discarded, the gate is full again, no flush is pending, the stage is Stopped, and stopping Execute discards the
pending heavy operations; a Stopped stage is refused (R180). `S.FLUSH` raises the flush flag of a Running stage and
nothing else at once, and a stage that is not Running is refused (R181); `F.FLUSHREQ` is `S.FLUSH F` (R201). -/
def Obligations.StageCommands : Prop :=
  ∀ (id : StageId) (s : State),
    let st := s.stages.get id
    decodePacket (plainPacket (0x1100 ||| id.code.setWidth 16) 0 0) = .ok (.sStart id) ∧
    decodePacket (plainPacket (0x1500 ||| id.code.setWidth 16) 0 0) = .ok (.sShutdown id) ∧
    decodePacket (plainPacket (0x1600 ||| id.code.setWidth 16) 0 0) = .ok (.sFlush id) ∧
    decodePacket (plainPacket 0x2100 0 0) = .ok .fFlushreq ∧
    (st.life = .ready → exec (.sStart id) s = .next { s with
      stages := s.stages.set id { st with life := .running }
      events := s.events ++ [.stageStarted id]
      resp := replyOk }) ∧
    (st.life ≠ .ready → exec (.sStart id) s = .next { s with resp := replyError .errState }) ∧
    (st.life ≠ .stopped → exec (.sShutdown id) s = .next { s with
      stages := s.stages.set id { st with
        queue := [], stats := { st.stats with queueDepth := 0 }, freePermits := st.maxInFlight, flushFlag := false,
        life := .stopped }
      ex := if id = .e then { s.ex with pendingHeavy := [] } else s.ex
      events := s.events ++ [.stageStopped id]
      resp := replyOk }) ∧
    (st.life = .stopped → exec (.sShutdown id) s = .next { s with resp := replyError .errState }) ∧
    (st.life = .running → exec (.sFlush id) s = .next { s with
      stages := s.stages.set id { st with flushFlag := true }
      resp := replyOk }) ∧
    (st.life ≠ .running → exec (.sFlush id) s = .next { s with resp := replyError .errState }) ∧
    exec .fFlushreq s = exec (.sFlush .f) s

/-- `S.ADJUST`: refused where the stage is Stopped, then where `n` is 0; growth is exact; a shrink takes back some number `k` of
permits from 0 to the most it can, and every such `k` is admitted (R179). -/
def Obligations.AdjustGate : Prop :=
  ∀ (id : StageId) (n : Word) (s : State),
    let st := s.stages.get id
    let shrunk (k : Nat) (d : Draws) : State := { s with
      stages := s.stages.set id { st with freePermits := st.freePermits - k, maxInFlight := st.maxInFlight - k }
      draws := d
      resp := replyWith (low64 (st.maxInFlight - k)) }
    (st.life = .stopped → exec (.sAdjust id n) s = .next { s with resp := replyError .errState }) ∧
    (st.life ≠ .stopped → n = 0 → exec (.sAdjust id n) s = .next { s with resp := replyError .errRange }) ∧
    (st.life ≠ .stopped → n ≠ 0 → st.maxInFlight ≤ n.toNat → exec (.sAdjust id n) s = .next { s with
      stages := s.stages.set id { st with
        freePermits := st.freePermits + (n.toNat - st.maxInFlight), maxInFlight := n.toNat }
      resp := replyWith n }) ∧
    (st.life ≠ .stopped → n ≠ 0 → n.toNat < st.maxInFlight →
      (∃ k ≤ min (st.maxInFlight - n.toNat) st.freePermits,
        exec (.sAdjust id n) s = .next (shrunk k s.restDraws)) ∧
      ∀ k ≤ min (st.maxInFlight - n.toNat) st.freePermits, ∃ x,
        exec (.sAdjust id n) { s with draws := { s.draws with given := x :: s.draws.given } } =
          .next (shrunk k { s.draws with count := s.draws.count + 1 }))

/-- The worker of Decode, Execute or Writeback: refused where the stage is not Running; a pending flush discards the queue, gives
its permits back and is acknowledged; an empty queue with permits free is one stall (R174, R176, R182, R291). -/
def Obligations.WorkerIdleAndFlush : Prop :=
  ∀ (id : StageId) (s : State),
    let st := s.stages.get id
    (st.life ≠ .running → exec (.sStep id) s = .next { s with resp := replyError .errState }) ∧
    (id ≠ .f → st.life = .running → st.flushFlag = true → exec (.sStep id) s = .next { s with
      stages := s.stages.set id { st with
        queue := [], freePermits := st.freePermits + st.queue.length, flushFlag := false,
        stats := { st.stats with queueDepth := 0 } }
      ctrl :=
        if s.ctrl.pstate = .flushing ∧ 1 < s.ctrl.pendingFlush then
          { s.ctrl with pendingFlush := s.ctrl.pendingFlush - 1 }
        else if s.ctrl.pstate = .flushing ∧ s.ctrl.pendingFlush = 1 then
          { s.ctrl with pendingFlush := 0, pstate := .running, recovering := false }
        else s.ctrl
      resp := replyOk }) ∧
    (id ≠ .f → st.life = .running → st.flushFlag = false → st.queue = [] → 0 < st.freePermits →
      exec (.sStep id) s = .next { s with
        stages := s.stages.set id { st with stats := { st.stats with stallCycles := st.stats.stallCycles + 1 } }
        events := s.events ++ [.stageStalled id]
        resp := replyOk })

/-- The meaning of an instruction word: Decode's worker takes the record at the head of its queue, decodes it as this word and
forwards it, to the tail of Execute's queue where Execute accepts it, else dropped with a backpressure count and event at
Execute (R175, R178, R220). It covers all 22 instruction-word constructors: the no-op word, Misc 0x00 and 0x18, Invalid 0x01 to
0x07, 0x19, 0x1B and 0x1D to 0x1F, Memory 0x08 to 0x0F and 0x20 to 0x2F, Operate 0x10 to 0x13 and 0x1C, FloatOp 0x14 to
0x17, Jump 0x1A, Branch 0x30 to 0x3F. That a word's meaning is this iteration is log entry 9. -/
def Obligations.DecodeWordForwards : Prop :=
  ∀ (i : Instr) (w : IWord) (s : State) (r : InstrRecord) (rest : List InstrRecord),
    encode i = .word w → s.worksOn .d r rest →
    (s.accepts .e → exec i s = .next { s with
      stages := { s.stages with
        d := s.stages.d.worked rest s.nextDraw
        e := { s.stages.e with
          freePermits := s.stages.e.freePermits - 1
          queue := s.stages.e.queue ++ [decodeRecord s.cfg w r]
          stats := { s.stages.e.stats with queueDepth := s.stages.e.queue.length + 1 } } }
      draws := s.restDraws
      resp := replyOk }) ∧
    (¬ s.accepts .e → exec i s = .next { s with
      stages := { s.stages with
        d := s.stages.d.worked rest s.nextDraw
        e := { s.stages.e with
          stats := { s.stages.e.stats with
            backpressureEvents := s.stages.e.stats.backpressureEvents + 1 } } }
      events := s.events ++ [.backpressure .e]
      draws := s.restDraws
      resp := replyOk })

/-- The fields Decode sets, class by class (R220 to R227): 16-bit and 21-bit displacements sign-extended, the hint and the Misc
function zero-extended, the branch target `pc + 4 + 4 * disp`, loads and stores by `memInfo`, the literal only in the literal
form, `valid` cleared for a reserved opcode; every other field as it was. -/
def Obligations.DecodeFields : Prop :=
  ∀ (c : Config) (w : IWord) (r : InstrRecord),
    let op : BitVec 6 := w.extractLsb' 26 6
    let cls := c.classOf[op.toNat]'(op.isLt)
    let info := c.memInfo[op.toNat]'(op.isLt)
    let disp21 : Word := (w.extractLsb' 0 21 : BitVec 21).signExtend 64
    decodeRecord c w r = { r with
      opcode := op, cls := cls, ra := w.extractLsb' 21 5, rb := w.extractLsb' 16 5, rc := w.extractLsb' 0 5
      decoded := true
      valid := if cls = .invalid then false else r.valid
      isLoad := if cls = .memory then info.kind == .load else false
      isStore := if cls = .memory then info.kind == .store else false
      accessSize := if cls = .memory then info.size else .b8
      isUnconditional :=
        if cls = .branch then c.uncondBranch[op.toNat]'(op.isLt) else if cls = .jump then true else false
      isConditional := if cls = .branch then !c.uncondBranch[op.toNat]'(op.isLt) else false
      isLiteral := if cls = .operate then w.getLsbD 12 else false
      lit := if cls = .operate ∧ w.getLsbD 12 = true then w.extractLsb' 13 8 else 0
      func :=
        if cls = .operate then (w.extractLsb' 5 7 : BitVec 7).setWidth 11
        else if cls = .floatOp then w.extractLsb' 5 11
        else if cls = .jump then (w.extractLsb' 14 2 : BitVec 2).setWidth 11
        else 0
      disp :=
        if cls = .memory then (w.extractLsb' 0 16 : BitVec 16).signExtend 64
        else if cls = .branch then disp21
        else if cls = .jump then (w.extractLsb' 0 14 : BitVec 14).setWidth 64
        else if cls = .misc then (w.extractLsb' 0 16 : BitVec 16).setWidth 64
        else 0
      branchTarget := if cls = .branch then r.pc + 4 + 4 * disp21 else 0 }

/-! ## Execute -/

/-- Inline execution (Plain variant): the execution unit runs on the instruction; a completed one is marked executed, counted and
forwarded with its results, a fault is counted, published, and the instruction forwarded unmarked; the unit's own effects
on registers, caches and memory are those of `execUnit`. Under either variant an instruction that is not valid or not
decoded is forwarded as it is, and nothing is executed. A forward that Writeback does not accept is dropped, with one
backpressure count and event at Writeback (R178, R226, R240, R242, R243, R249). That a record submitted as executed is
unmarked by a fault is log entry 28. -/
def Obligations.ExecuteInline : Prop :=
  ∀ (s : State) (r : InstrRecord) (rest : List InstrRecord), s.worksOn .e r rest →
    let fwd (x : InstrRecord) : StageMap Stage :=
      { s.stages with e := s.stages.e.worked rest s.nextDraw, w := s.receiving .w x }
    (s.cfg.execVariant = .plain → r.valid = true → r.decoded = true →
      s.cfg.costClass r.cls r.opcode r.func ≠ .heavy →
      let r1 : InstrRecord := { r with cost := s.cfg.costClass r.cls r.opcode r.func }
      let s1 : State := { s with stages := { s.stages with e := s.stages.e.taken rest }, draws := s.restDraws }
      (∀ (res : ExecResult) (s2 : State), execUnit r1 s1 = (.done res, s2) →
        exec (.sStep .e) s = .next { s with
          sys := s2.sys, ints := s2.ints, floats := s2.floats
          stages := fwd (completedWith r1 res)
          events := s.events ++ s.dropEvents .w
          draws := s.restDraws
          resp := replyOk }) ∧
      (∀ s2 : State, execUnit r1 s1 = (.fault, s2) →
        exec (.sStep .e) s = .next { s with
          sys := s2.sys, ints := s2.ints, floats := s2.floats
          stages := fwd { r1 with executed := false }
          ex := { s.ex with executionExceptions := s.ex.executionExceptions + 1 }
          events := s.events ++ [.executionException r.pc] ++ s.dropEvents .w
          draws := s.restDraws
          resp := replyOk })) ∧
    (r.valid = false ∨ r.decoded = false →
      exec (.sStep .e) s = .next { s with
        stages := fwd r
        events := s.events ++ s.dropEvents .w
        draws := s.restDraws
        resp := replyOk })

/-- The no-op word: `execUnit` on it is done with no exception, no memory access and no register changed; its only register
operands are register 31; and no legal configuration makes the word, as Decode leaves it, Heavy (R245). A legal configuration
keeps the costs the source's examples force, whatever the function: integer add and logic Trivial, shifts Moderate, multiply
and square root Heavy (R241). That `step` refuses a configuration that breaks these two is log entry 18. -/
def Obligations.NopHasNoEffect : Prop :=
  (∀ (s : State) (r : InstrRecord), r.raw = 0x47FF041F →
    ∃ res : ExecResult, execUnit r s = (.done res, s) ∧ res.hasException = false) ∧
  (∀ (c : Config) (r : InstrRecord), (decodeRecord c 0x47FF041F r).ra = 31 ∧ (decodeRecord c 0x47FF041F r).rb = 31 ∧
    (decodeRecord c 0x47FF041F r).rc = 31) ∧
  ∀ c : Config, c.ok = true →
    (∀ r : InstrRecord, let d := decodeRecord c 0x47FF041F r
      c.costClass d.cls d.opcode d.func ≠ .heavy) ∧
    ∀ f : BitVec 11, c.costClass .operate 0x10 f = .trivial ∧ c.costClass .operate 0x11 f = .trivial ∧
      c.costClass .operate 0x12 f = .moderate ∧ c.costClass .operate 0x13 f = .heavy ∧
      c.costClass .floatOp 0x14 f = .heavy

/-- The no-op word through the pipeline, where opcode 0x11 is of the Operate class: decoded, executed with zero register and
memory effects, and committed, `instructionsCommitted` up by exactly 1, under either variant and whatever the tiering draws
(R220, R240, R245, R267). Of the heavy pool, the tier table, the JitCompiler's trace and the events published before the
commit's it says nothing. -/
def Obligations.NopThroughPipeline : Prop :=
  ∀ (s : State) (r : InstrRecord), s.cfg.ok = true → s.cfg.classOfOpcode 0x11 = .operate →
    s.worksOn .d r [] → r.raw = 0x47FF041F → r.valid = true →
    s.accepts .e → s.stages.e.queue = [] → s.stages.e.flushFlag = false →
    s.accepts .w → s.stages.w.queue = [] → s.stages.w.flushFlag = false →
    ∃ t : State, runInstrs [.sStep .d, .sStep .e, .sStep .w] s = some t ∧
      t.wb = { s.wb with instructionsCommitted := s.wb.instructionsCommitted + 1 } ∧
      t.ints = s.ints ∧ t.floats = s.floats ∧ t.sys = s.sys ∧ t.fetch = s.fetch ∧ t.ctrl = s.ctrl ∧
      t.stages.f = s.stages.f ∧ t.stages.d.queue = [] ∧ t.stages.e.queue = [] ∧ t.stages.w.queue = [] ∧
      t.stages.w.stats.processed = s.stages.w.stats.processed + 1 ∧
      t.ex.executionExceptions = s.ex.executionExceptions ∧
      ∃ l, t.events = s.events ++ l ++ [.instructionCommitted r.pc]

/-- A Heavy instruction leaves Execute's queue for the pool under a new id and nothing is forwarded (Plain variant, R246); it
executes, with its effects, and is forwarded when `X.COMPLETE` names it; where its execution faults, the fault is counted and
published and the instruction forwarded unmarked (R249); a forward that Writeback does not accept is dropped with one
backpressure count and event (R178); and an id that is not pending is refused (R247). That a record submitted as executed
is unmarked by a fault is log entry 28. -/
def Obligations.HeavyOperations : Prop :=
  (∀ (s : State) (r : InstrRecord) (rest : List InstrRecord), s.worksOn .e r rest → s.cfg.execVariant = .plain →
    r.valid = true → r.decoded = true → s.cfg.costClass r.cls r.opcode r.func = .heavy →
    exec (.sStep .e) s = .next { s with
      stages := { s.stages with e := s.stages.e.worked rest s.nextDraw }
      ex := { s.ex with
        pendingHeavy := s.ex.pendingHeavy ++ [(s.ex.heavySeq, { r with cost := .heavy })]
        heavySeq := s.ex.heavySeq + 1 }
      draws := s.restDraws
      resp := replyOk }) ∧
  (∀ (s : State) (id : Word) (r : InstrRecord) (s2 : State), s.execGood → (id.toNat, r) ∈ s.ex.pendingHeavy →
    let left : ExecState := { s.ex with pendingHeavy := s.ex.pendingHeavy.filter (fun p => p.1 != id.toNat) }
    (∀ res : ExecResult, execUnit r { s with ex := left } = (.done res, s2) →
      exec (.xComplete id) s = .next { s with
        sys := s2.sys, ints := s2.ints, floats := s2.floats
        stages := { s.stages with
          w := s.receiving .w (completedWith r res) }
        ex := left
        events := s.events ++ s.dropEvents .w
        resp := replyOk }) ∧
    (execUnit r { s with ex := left } = (.fault, s2) →
      exec (.xComplete id) s = .next { s with
        sys := s2.sys, ints := s2.ints, floats := s2.floats
        stages := { s.stages with w := s.receiving .w { r with executed := false } }
        ex := { left with executionExceptions := s.ex.executionExceptions + 1 }
        events := s.events ++ [.executionException r.pc] ++ s.dropEvents .w
        resp := replyOk })) ∧
  (∀ (s : State) (id : Word), (∀ p ∈ s.ex.pendingHeavy, p.1 ≠ id.toNat) →
    exec (.xComplete id) s = .next { s with resp := replyError .errState })

/-- Tiering: a visit is counted; below the profiling threshold the mode is Interpret, below the compilation threshold
Profile, from there Compiled or Profile as the JitCompiler answers; the first visit at the threshold with no compiled block
makes one compilation request, counted and published; a change of the recorded mode is counted and published (R250, R251,
R252, R255). Nothing else changes: not the registers, the hierarchy, the stages nor the rest of Execute's state, and one draw,
the JitCompiler's answer, is used exactly where the compilation threshold is reached. -/
def Obligations.TierModes : Prop :=
  ∀ (s : State) (r : InstrRecord), s.execGood →
    let e := tierGet s.ex.tier r.pc.toNat
    let n := e.count + 1
    let hot := s.cfg.profilingThreshold ≤ n ∧ s.cfg.compilationThreshold ≤ n
    let mode : ExecMode :=
      if n < s.cfg.profilingThreshold then .interpret
      else if n < s.cfg.compilationThreshold then .profile
      else if s.nextDraw % 2 = 1 then .compiled else .profile
    let asks : Prop := hot ∧ mode = .profile ∧ e.compileRequested = false
    let requested : List Event :=
      if hot ∧ mode = .profile ∧ e.compileRequested = false then [.compilationRequested r.pc] else []
    let changed : List Event :=
      match e.mode with
      | some m => if m = mode then [] else [.modeChanged r.pc m mode]
      | none => []
    (s.tierStep r).1 = mode ∧
    (s.tierStep r).2 = { s with
      ex := { s.ex with
        tier := (s.tierStep r).2.ex.tier
        modeChanges := (s.tierStep r).2.ex.modeChanges
        compilationTriggers := (s.tierStep r).2.ex.compilationTriggers }
      events := s.events ++ requested ++ changed
      draws := if hot then s.restDraws else s.draws } ∧
    (∀ pc : Nat, pc ≠ r.pc.toNat → tierGet (s.tierStep r).2.ex.tier pc = tierGet s.ex.tier pc) ∧
    (tierGet (s.tierStep r).2.ex.tier r.pc.toNat).count = n ∧
    (tierGet (s.tierStep r).2.ex.tier r.pc.toNat).mode = some mode ∧
    ((tierGet (s.tierStep r).2.ex.tier r.pc.toNat).compileRequested = true ↔ e.compileRequested = true ∨ asks) ∧
    (asks → (s.tierStep r).2.ex.compilationTriggers = s.ex.compilationTriggers + 1) ∧
    (¬ asks → (s.tierStep r).2.ex.compilationTriggers = s.ex.compilationTriggers) ∧
    ((∃ m, e.mode = some m ∧ m ≠ mode) → (s.tierStep r).2.ex.modeChanges = s.ex.modeChanges + 1) ∧
    ((¬ ∃ m, e.mode = some m ∧ m ≠ mode) → (s.tierStep r).2.ex.modeChanges = s.ex.modeChanges)

/-- The Hybrid variant. A step of Execute on a valid and decoded instruction is its hybrid `process`, from the state with the
instruction off the queue: what it outputs is forwarded to Writeback, or dropped there with one backpressure count and event,
and where it outputs nothing nothing is forwarded (R175, R178, R240). Interpret mode takes the interpreted path, Profile mode
sends the instruction to the JitCompiler's trace first; Compiled mode asks for the compiled block, and takes the execution
unit's result where it runs, else counts one `jitMisses` and takes the interpreted path with the registers and memory as they
were (R240, R253, R254). The interpreted path is the cost split, then the pool or the execution unit (R241, R242, R246, R249).
That a compiled block gives the execution unit's result is log entry 16; that a record submitted as executed is unmarked by
a fault is log entry 28. -/
def Obligations.HybridPaths : Prop :=
  (∀ (s : State) (r : InstrRecord) (rest : List InstrRecord), s.worksOn .e r rest → s.cfg.execVariant = .hybrid →
    r.valid = true → r.decoded = true →
    let s1 : State := { s with stages := { s.stages with e := s.stages.e.taken rest }, draws := s.restDraws }
    let worked : Stage := s.stages.e.worked rest s.nextDraw
    (∃ (x : InstrRecord) (s2 : State), hybridE r s1 = (.output x, s2) ∧
      exec (.sStep .e) s = .next { s2 with
        stages := { s.stages with e := worked, w := s.receiving .w x }
        events := s2.events ++ s.dropEvents .w
        resp := replyOk }) ∨
    ∃ s2 : State, hybridE r s1 = (.noOutput, s2) ∧
      exec (.sStep .e) s = .next { s2 with stages := { s.stages with e := worked }, resp := replyOk }) ∧
  (∀ (r : InstrRecord) (s t : State) (mode : ExecMode), s.tierStep r = (mode, t) →
    let u : State := { t with draws := t.restDraws }
    let missed : State := { u with ex := { u.ex with jitMisses := u.ex.jitMisses + 1 } }
    (mode = .interpret → hybridE r s = interpretE r t) ∧
    (mode = .profile → hybridE r s = interpretE r { t with jitTrace := t.jitTrace ++ [(r.pc, r.raw)] }) ∧
    (mode = .compiled → t.nextDraw % 2 = 1 → ∀ res s2, execUnit r u = (.done res, s2) →
      hybridE r s = (.output (completedWith r res), s2)) ∧
    (mode = .compiled → t.nextDraw % 2 = 1 → (∃ s2, execUnit r u = (.fault, s2)) →
      hybridE r s = interpretE r missed) ∧
    (mode = .compiled → t.nextDraw % 2 ≠ 1 → hybridE r s = interpretE r missed)) ∧
  ∀ (r : InstrRecord) (s : State),
    let r1 : InstrRecord := { r with cost := s.cfg.costClass r.cls r.opcode r.func }
    (r1.cost = .heavy → interpretE r s = (.noOutput, { s with ex := { s.ex with
      pendingHeavy := s.ex.pendingHeavy ++ [(s.ex.heavySeq, r1)], heavySeq := s.ex.heavySeq + 1 } })) ∧
    (r1.cost ≠ .heavy → ∀ res s2, execUnit r1 s = (.done res, s2) →
      interpretE r s = (.output (completedWith r1 res), s2)) ∧
    (r1.cost ≠ .heavy → ∀ s2, execUnit r1 s = (.fault, s2) →
      interpretE r s = (.output { r1 with executed := false }, { s2 with
        ex := { s.ex with executionExceptions := s.ex.executionExceptions + 1 }
        events := s.events ++ [.executionException r.pc] }))

/-- A Memory-class load or store that completes makes one data access of its size at `x[rb] + disp` through `DATA_PATH`. Through the hierarchy:
a completed load carries the bytes read, little-endian and zero-extended, a completed store has written its bytes, the
hierarchy is as that one access leaves it, and as it was where the access is not inside one line. Straight to main memory: a
completed load carries the bytes memory holds and changes no byte, and a completed store has written its bytes at its address
and no other byte, the caches left alone. A completed load has not written its destination register, which Writeback writes
later (R71, R133, R221, R242 (b) and (c)). The premises on the opcodes 0x29 and 0x2D say that they are decoded as the 8-byte
load and store that the test unit XU1 takes them for. That any unit forms its address so is log entry 4; that one which is
done with an architectural exception has made the access too is log entry 25; that a submitted record with both `isLoad`
and `isStore` makes the load's access is log entry 29. -/
def Obligations.LoadStoreAccess : Prop :=
  ∀ (s t : State) (r : InstrRecord) (res : ExecResult), r.cls = .memory →
    r.raw ≠ 0x47FF041F → (r.opcode = 0x29 → r.isLoad = true ∧ r.accessSize = .b8) →
    (r.opcode = 0x2D → r.isLoad = false ∧ r.isStore = true ∧ r.accessSize = .b8) →
    execUnit r s = (.done res, t) →
    let a : Word := s.readInt r.rb + r.disp
    let n := r.accessSize.bytes
    (r.isLoad = true →
      (s.cfg.floatDestOf r.opcode = true → t.floats[r.ra.toNat]'(r.ra.isLt) = s.floats[r.ra.toNat]'(r.ra.isLt)) ∧
      (s.cfg.floatDestOf r.opcode = false → t.ints[r.ra.toNat]'(r.ra.isLt) = s.ints[r.ra.toNat]'(r.ra.isLt)) ∧
      (s.cfg.dataPath = .hierarchy → s.cfg.legal a n = true → ∃ (b : List Byte) (m : MemSys),
        cacheRead s.cfg .data a n s.sys = some (b, m) ∧ t.sys = m ∧ res.loadValue = leWord b) ∧
      (s.cfg.dataPath = .memory → t.sys = s.sys ∧ res.loadValue = leWord (s.sys.mem.readBytes a n))) ∧
    (r.isLoad = false → r.isStore = true →
      (s.cfg.dataPath = .hierarchy → s.cfg.legal a n = true → ∃ (b : List Byte) (m : MemSys), b.length = n ∧
        cacheWrite s.cfg a b s.sys = some m ∧ t.sys = m) ∧
      (s.cfg.dataPath = .memory → s.sys.mem.wf = true → ∃ b : List Byte, b.length = n ∧
        t.sys.caches = s.sys.caches ∧ t.sys.victims = s.sys.victims ∧
        (∀ k < n, t.sys.mem.readByte (a + BitVec.ofNat 64 k).toNat = b.getD k 0) ∧
        ∀ x : Word, ¬ within a n x → t.sys.mem.readByte x.toNat = s.sys.mem.readByte x.toNat)) ∧
    (r.isLoad = true ∨ r.isStore = true → s.cfg.dataPath = .hierarchy → s.cfg.legal a n = false → t.sys = s.sys)

/-! ## Writeback -/

/-- The commit gate: an instruction that is not valid, decoded and executed is a commit failure, counted with a stall, and
nothing else happens (R266). -/
def Obligations.CommitGate : Prop :=
  ∀ (s : State) (r : InstrRecord) (rest : List InstrRecord), s.worksOn .w r rest →
    ¬ (r.valid = true ∧ r.decoded = true ∧ r.executed = true) →
    exec (.sStep .w) s = .next { s with
      stages := { s.stages with
        w := { s.stages.w.worked rest s.nextDraw with
          stats := { (s.stages.w.worked rest s.nextDraw).stats with
            stallCycles := s.stages.w.stats.stallCycles + 1 } } }
      wb := { s.wb with commitFailures := s.wb.commitFailures + 1 }
      events := s.events ++ [.stageStalled .w]
      draws := s.restDraws
      resp := replyOk }

/-- The commit of an instruction that is no branch: a load writes its register, sign-extended from 1, 2 and 4 bytes and verbatim
from 8, in the bank `floatDest` names, and a write to register 31 does nothing; any other writes no register; the
commit is counted and published (R267, R268, R269). -/
def Obligations.CommitLoadsAndOthers : Prop :=
  ∀ (s : State) (r : InstrRecord) (rest : List InstrRecord), s.worksOn .w r rest →
    r.valid = true → r.decoded = true → r.executed = true → r.hasException = false →
    r.cls ≠ .branch → r.cls ≠ .jump →
    let v : Word := match r.accessSize with
      | .b1 => (r.loadValue.setWidth 8).signExtend 64
      | .b2 => (r.loadValue.setWidth 16).signExtend 64
      | .b4 => (r.loadValue.setWidth 32).signExtend 64
      | .b8 => r.loadValue
    let float := s.cfg.floatDestOf r.opcode
    exec (.sStep .w) s = .next { s with
      ints := if r.isLoad = true ∧ float = false ∧ r.ra ≠ 31 then s.ints.set r.ra.toNat v r.ra.isLt else s.ints
      floats := if r.isLoad = true ∧ float = true ∧ r.ra ≠ 31 then s.floats.set r.ra.toNat v r.ra.isLt else s.floats
      stages := { s.stages with w := s.stages.w.worked rest s.nextDraw }
      wb := { s.wb with instructionsCommitted := s.wb.instructionsCommitted + 1 }
      events := s.events ++ [.instructionCommitted r.pc]
      draws := s.restDraws
      resp := replyOk }

/-- The commit of a branch or jump. One that is a load too, as a record submitted from outside may be, writes its register
first, as any load does (R265, R268). Then: not taken, it is counted, published and committed; taken, it sets Fetch's redirect to the
realized target (a jump's with its low two bits cleared), and a flush begins only where the target is not `pc + 4` and the
controller is Running (R265, R270, R290, R298). A target that is not a multiple of 4 sets no redirect: log entry 11. -/
def Obligations.CommitBranches : Prop :=
  ∀ (s : State) (r : InstrRecord) (rest : List InstrRecord), s.worksOn .w r rest →
    r.valid = true → r.decoded = true → r.executed = true → r.hasException = false →
    (r.cls = .branch ∨ r.cls = .jump) →
    let v : Word := match r.accessSize with
      | .b1 => (r.loadValue.setWidth 8).signExtend 64
      | .b2 => (r.loadValue.setWidth 16).signExtend 64
      | .b4 => (r.loadValue.setWidth 32).signExtend 64
      | .b8 => r.loadValue
    let float := s.cfg.floatDestOf r.opcode
    let ints := if r.isLoad = true ∧ float = false ∧ r.ra ≠ 31 then s.ints.set r.ra.toNat v r.ra.isLt else s.ints
    let floats := if r.isLoad = true ∧ float = true ∧ r.ra ≠ 31 then s.floats.set r.ra.toNat v r.ra.isLt else s.floats
    let taken := r.isUnconditional || (r.isConditional && r.condResult)
    let target : Word := if r.cls = .jump then r.jumpTarget &&& 0xFFFFFFFFFFFFFFFC else r.branchTarget
    let st : StageMap Stage := { s.stages with w := s.stages.w.worked rest s.nextDraw }
    let running := ([s.stages.f, s.stages.d, s.stages.e, s.stages.w].filter (fun x => x.life == .running)).length
    (taken = false → exec (.sStep .w) s = .next { s with
      ints := ints
      floats := floats
      stages := st
      wb := { s.wb with
        branchesNotTaken := s.wb.branchesNotTaken + 1, instructionsCommitted := s.wb.instructionsCommitted + 1 }
      events := s.events ++ [.branchResolved r.pc false (r.pc + 4), .instructionCommitted r.pc]
      draws := s.restDraws
      resp := replyOk }) ∧
    (taken = true → exec (.sStep .w) s = .next { s with
      ints := ints
      floats := floats
      fetch := { s.fetch with
        branchTarget := if target &&& 3 = 0 then some target else s.fetch.branchTarget }
      stages := if target ≠ r.pc + 4 ∧ s.ctrl.pstate = .running then
          ⟨st.f.flagged, st.d.flagged, st.e.flagged, st.w.flagged⟩
        else st
      ctrl := if target ≠ r.pc + 4 ∧ s.ctrl.pstate = .running then
          { s.ctrl with pstate := .flushing, pendingFlush := running }
        else s.ctrl
      wb := { s.wb with
        branchesTaken := s.wb.branchesTaken + 1, branchRedirects := s.wb.branchRedirects + 1,
        instructionsCommitted := s.wb.instructionsCommitted + 1 }
      events := s.events ++ [.branchResolved r.pc true target, .instructionCommitted r.pc]
      draws := s.restDraws
      resp := replyOk })

/-- Taking an exception: logged with its category and a new stamp, the log pruned by age and then by length, published, counted by
the controller, which goes from Running to Exception; nothing is committed, saved or redirected (R271, R273, R293, R322). -/
def Obligations.ExceptionAtWriteback : Prop :=
  ∀ (s : State) (r : InstrRecord) (rest : List InstrRecord), s.worksOn .w r rest →
    r.valid = true → r.decoded = true → r.executed = true → r.hasException = true →
    let seq := s.wb.excSeq + 1
    let entry : ExcEntry := ⟨r.excVector, r.pc, Config.vectorCategory r.excVector, seq⟩
    let young : List ExcEntry := (s.wb.excLog ++ [entry]).filter
      (fun x : ExcEntry => decide (seq - x.stamp < s.cfg.excLogMaxAge))
    exec (.sStep .w) s = .next { s with
      stages := { s.stages with w := s.stages.w.worked rest s.nextDraw }
      wb := { s.wb with excSeq := seq, excLog := young.drop (young.length - s.cfg.excLogCap) }
      ctrl := { s.ctrl with
        excTicks := s.ctrl.excTicks ++ [s.ctrl.tick]
        pstate := if s.ctrl.pstate = .running then .exception else s.ctrl.pstate }
      events := s.events ++ [.exceptionRaised r.excVector r.pc]
      draws := s.restDraws
      resp := replyOk }

/-- Every instruction Writeback dequeues ends in exactly one of three ways: committed, commit failure, exception (R277). -/
def Obligations.WritebackEndsOnce : Prop :=
  ∀ (s t : State) (r : InstrRecord) (rest : List InstrRecord), s.worksOn .w r rest →
    exec (.sStep .w) s = .next t →
    t.stages.w.queue = rest ∧ t.stages.w.stats.processed = s.stages.w.stats.processed + 1 ∧
    ((t.wb.instructionsCommitted = s.wb.instructionsCommitted + 1 ∧ t.wb.commitFailures = s.wb.commitFailures ∧
        t.wb.excSeq = s.wb.excSeq) ∨
     (t.wb.instructionsCommitted = s.wb.instructionsCommitted ∧ t.wb.commitFailures = s.wb.commitFailures + 1 ∧
        t.wb.excSeq = s.wb.excSeq) ∨
     (t.wb.instructionsCommitted = s.wb.instructionsCommitted ∧ t.wb.commitFailures = s.wb.commitFailures ∧
        t.wb.excSeq = s.wb.excSeq + 1))

/-! ## Fetch -/

/-- `F.REDIRECT` sets the pending redirect, the latest winning, and `F.SETPC` sets `nextPC` while Fetch is not Running; a value
that is not a multiple of 4 is refused with `ERR_ALIGN`, and `F.SETPC` on a Running stage with `ERR_STATE` first (R202,
R208). -/
def Obligations.RedirectAndSetPc : Prop :=
  ∀ (t : Word) (s : State),
    decodePacket (plainPacket 0x2000 t 0) = .ok (.fRedirect t) ∧ decodePacket (plainPacket 0x2200 t 0) = .ok (.fSetpc t) ∧
    (t &&& 3 = 0 → exec (.fRedirect t) s = .next { s with
      fetch := { s.fetch with branchTarget := some t }, resp := replyOk }) ∧
    (t &&& 3 ≠ 0 → exec (.fRedirect t) s = .next { s with resp := replyError .errAlign }) ∧
    (s.stages.f.life = .running → exec (.fSetpc t) s = .next { s with resp := replyError .errState }) ∧
    (s.stages.f.life ≠ .running → t &&& 3 = 0 → exec (.fSetpc t) s = .next { s with
      fetch := { s.fetch with nextPC := t }, resp := replyOk }) ∧
    (s.stages.f.life ≠ .running → t &&& 3 ≠ 0 → exec (.fSetpc t) s = .next { s with resp := replyError .errAlign })

/-- A fetch that hits the fetch cache: a pending redirect is applied, the hit and the instruction are counted, `nextPC` goes
past it, and a fresh valid record goes to Decode, or is dropped there with one backpressure count and event, `nextPC` going
past it all the same. In the prefetch window at the end of a line, the first word of the next line is read and installed,
where the fetch cache has not got it and the read does not fail, and neither a hit, a miss nor a stall is counted for it
(R178, R200, R203, R204, R205, R206, R207). -/
def Obligations.FetchHit : Prop :=
  ∀ (s : State) (w : IWord), s.stages.f.life = .running → s.stages.f.flushFlag = false →
    let pc := s.fetch.branchTarget.getD s.fetch.nextPC
    let past := pc.toNat % s.cfg.fcLineSize
    let p : Word := pc - BitVec.ofNat 64 past + BitVec.ofNat 64 s.cfg.fcLineSize
    let hit (fc : List FcEntry) (m : MemSys) (d : Draws) : State := { s with
      sys := m
      fetch := { s.fetch with nextPC := pc + 4, branchTarget := none, fcHits := s.fetch.fcHits + 1, fc := fc }
      stages := { s.stages with
        f := { s.stages.f with
          stats := { s.stages.f.stats with
            processed := s.stages.f.stats.processed + 1
            totalCycles := s.stages.f.stats.totalCycles + s.nextDraw } }
        d := s.receiving .d (freshRecord w pc) }
      events := s.events ++ s.dropEvents .d
      draws := d
      resp := replyOk }
    fcLookup s.cfg s.fetch.fc pc (fcSlot s.cfg pc) = some w →
    IsFresh (freshRecord w pc) w pc ∧
    (past < s.cfg.fcLineSize - s.cfg.prefetchWindow ∨ fcLookup s.cfg s.fetch.fc p 0 ≠ none →
      exec (.sStep .f) s = .next (hit s.fetch.fc s.sys s.restDraws)) ∧
    (s.cfg.ok = true → s.fetchGood → ∃ (fc : List FcEntry) (m : MemSys) (d : Draws),
      Prefetches s.cfg pc s.fetch.fc s.sys s.restDraws fc m d ∧ exec (.sStep .f) s = .next (hit fc m d))

/-- A fetch that misses the fetch cache, with either source of words. The word at the PC is read, a pending redirect having been
applied. Where the read fails, which only main memory does: one stall is counted and published, `nextPC` stays at that PC,
and the fetch cache and its counters are as they were. Else the word is installed, every other slot answering as it did and a
line of another tag zeroed; the miss and the instruction are counted, `nextPC` goes past it, the prefetch follows, and a fresh
valid record goes to Decode, or is dropped there with one backpressure count and event, `nextPC` going past it all the same
(R178, R200, R203, R204, R205, R206, R207). -/
def Obligations.FetchMiss : Prop :=
  ∀ s : State, s.cfg.ok = true → s.fetchGood → s.stages.f.life = .running → s.stages.f.flushFlag = false →
    let pc := s.fetch.branchTarget.getD s.fetch.nextPC
    fcLookup s.cfg s.fetch.fc pc (fcSlot s.cfg pc) = none →
    ∃ (word : Option IWord) (m : MemSys) (d : Draws), ReadsWord s.cfg pc s.sys s.draws word m d ∧
      match word with
      | none => exec (.sStep .f) s = .next { s with
          fetch := { s.fetch with nextPC := pc, branchTarget := none }
          stages := { s.stages with
            f := { s.stages.f with
              stats := { s.stages.f.stats with stallCycles := s.stages.f.stats.stallCycles + 1 } } }
          events := s.events ++ [.stageStalled .f]
          draws := d
          resp := replyOk }
      | some v => IsFresh (freshRecord v pc) v pc ∧ ∃ (fc1 fc : List FcEntry) (m2 : MemSys) (d2 : Draws),
          Installed s.cfg s.fetch.fc pc (fcSlot s.cfg pc) v fc1 ∧
          Prefetches s.cfg pc fc1 m d.rest fc m2 d2 ∧
          exec (.sStep .f) s = .next { s with
            sys := m2
            fetch := { s.fetch with
              nextPC := pc + 4, branchTarget := none, fcMisses := s.fetch.fcMisses + 1, fc := fc }
            stages := { s.stages with
              f := { s.stages.f with
                stats := { s.stages.f.stats with
                  processed := s.stages.f.stats.processed + 1
                  totalCycles := s.stages.f.stats.totalCycles + d.value } }
              d := s.receiving .d (freshRecord v pc) }
            events := s.events ++ s.dropEvents .d
            draws := d2
            resp := replyOk }

/-- Fetch handles a flush: its queue is discarded and its gate full, a pending redirect is applied, nothing is fetched, and the
flush is acknowledged (R203, R291). -/
def Obligations.FetchFlush : Prop :=
  ∀ s : State, s.stages.f.life = .running → s.stages.f.flushFlag = true →
    exec (.sStep .f) s = .next { s with
      fetch := { s.fetch with nextPC := s.fetch.branchTarget.getD s.fetch.nextPC, branchTarget := none }
      stages := { s.stages with
        f := { s.stages.f with
          queue := [], freePermits := s.stages.f.maxInFlight, flushFlag := false,
          stats := { s.stages.f.stats with queueDepth := 0 } } }
      ctrl :=
        if s.ctrl.pstate = .flushing ∧ 1 < s.ctrl.pendingFlush then
          { s.ctrl with pendingFlush := s.ctrl.pendingFlush - 1 }
        else if s.ctrl.pstate = .flushing ∧ s.ctrl.pendingFlush = 1 then
          { s.ctrl with pendingFlush := 0, pstate := .running, recovering := false }
        else s.ctrl
      resp := replyOk }

/-! ## The controller -/

/-- `K.START`: from Stopped to Starting, every stage that is not Running initialised and started, from the last to the first, and
the tuning samples cleared; `K.STOP`: from Running to Stopping, every stage that is not Stopped shut down, from the first
to the last, and the heavy pool discarded with Execute's; each refused in any other state (R171, R172, R180, R286, R288).
That Execute's `heavySeq` is reset too is log entry 10. -/
def Obligations.ControllerStartStop : Prop :=
  (∀ s : State,
    let fresh (id : StageId) : Stage :=
      if (s.stages.get id).life = .running then s.stages.get id
      else ⟨.running, [], false, s.cfg.maxInFlightInit.get id, s.cfg.maxInFlightInit.get id, ⟨0, 0, 0, 0, 0⟩⟩
    (s.ctrl.pstate ≠ .stopped → exec .kStart s = .next { s with resp := replyError .errState }) ∧
    (s.ctrl.pstate = .stopped → exec .kStart s = .next { s with
      ctrl := { s.ctrl with pstate := .starting, utilSamples := ⟨[], [], [], []⟩ }
      stages := ⟨fresh .f, fresh .d, fresh .e, fresh .w⟩
      fetch := if s.stages.f.life = .running then s.fetch else
        ⟨s.fetch.nextPC, none, List.replicate s.cfg.fcLines
          ⟨false, 0, List.replicate (s.cfg.fcLineSize / 4) false, List.replicate (s.cfg.fcLineSize / 4) 0⟩, 0, 0⟩
      ex := if s.stages.e.life = .running then s.ex else ⟨[], 0, 0, [], 0, 0, 0⟩
      wb := if s.stages.w.life = .running then s.wb else ⟨0, 0, 0, 0, 0, [], 0⟩
      events := s.events ++
        (([.w, .e, .d, .f] : List StageId).filter (fun id => (s.stages.get id).life != .running)).map .stageStarted
      resp := replyOk })) ∧
  (∀ s : State,
    let down (st : Stage) : Stage :=
      if st.life = .stopped then st
      else { st with
        queue := [], stats := { st.stats with queueDepth := 0 }, freePermits := st.maxInFlight, flushFlag := false,
        life := .stopped }
    (s.ctrl.pstate ≠ .running → exec .kStop s = .next { s with resp := replyError .errState }) ∧
    (s.ctrl.pstate = .running → exec .kStop s = .next { s with
      ctrl := { s.ctrl with pstate := .stopping }
      stages := ⟨down s.stages.f, down s.stages.d, down s.stages.e, down s.stages.w⟩
      ex := if s.stages.e.life = .stopped then s.ex else { s.ex with pendingHeavy := [] }
      events := s.events ++
        (([.f, .d, .e, .w] : List StageId).filter (fun id => (s.stages.get id).life != .stopped)).map .stageStopped
      resp := replyOk }))

/-- `K.FLUSH`: refused unless Running; with no stage Running the controller stays Running; else every Running stage's flag is
raised, the controller is Flushing, and `pendingFlush` is their number (R290). -/
def Obligations.ControllerFlush : Prop :=
  ∀ s : State,
    let n := ([s.stages.f, s.stages.d, s.stages.e, s.stages.w].filter (fun x => x.life == .running)).length
    (s.ctrl.pstate ≠ .running → exec .kFlush s = .next { s with resp := replyError .errState }) ∧
    (s.ctrl.pstate = .running → n = 0 → exec .kFlush s = .next { s with
      ctrl := { s.ctrl with pstate := .running, recovering := false }
      resp := replyOk }) ∧
    (s.ctrl.pstate = .running → n ≠ 0 → exec .kFlush s = .next { s with
      stages := ⟨s.stages.f.flagged, s.stages.d.flagged, s.stages.e.flagged, s.stages.w.flagged⟩
      ctrl := { s.ctrl with pstate := .flushing, pendingFlush := n }
      resp := replyOk })

/-- The flush protocol: with four stages Running, a flush followed by one worker step of each stage, in any order, counts the
acknowledgements down from 4 and returns to Running on the last, with every queue discarded, every flag cleared and a redirect
applied; the configuration, the hierarchy, the registers, the private state of Execute and Writeback, the events, the trace
and the draws are as before. Of the permits, the port and the response it says nothing (R182, R203, R290, R291, R292). -/
def Obligations.FlushProtocol : Prop :=
  ∀ (s : State) (order : List StageId), order.Perm [.f, .d, .e, .w] → s.ctrl.pstate = .running →
    (∀ id, (s.stages.get id).life = .running) →
    (∀ k ≤ 4, ∃ t : State, runInstrs (.kFlush :: (order.take k).map .sStep) s = some t ∧
      t.ctrl.pendingFlush = 4 - k ∧ (k < 4 → t.ctrl.pstate = .flushing)) ∧
    ∃ t : State, runInstrs (.kFlush :: order.map .sStep) s = some t ∧
      t.ctrl = { s.ctrl with pstate := .running, pendingFlush := 0, recovering := false } ∧
      (∀ id, (t.stages.get id).queue = [] ∧ (t.stages.get id).flushFlag = false ∧
        (t.stages.get id).life = .running ∧ (t.stages.get id).maxInFlight = (s.stages.get id).maxInFlight ∧
        (t.stages.get id).stats = { (s.stages.get id).stats with queueDepth := 0 }) ∧
      t.fetch = { s.fetch with nextPC := s.fetch.branchTarget.getD s.fetch.nextPC, branchTarget := none } ∧
      t.cfg = s.cfg ∧ t.sys = s.sys ∧ t.ints = s.ints ∧ t.floats = s.floats ∧ t.ex = s.ex ∧ t.wb = s.wb ∧
      t.events = s.events ∧ t.jitTrace = s.jitTrace ∧ t.draws = s.draws

/-- `K.EXCEPTION` is never refused: the exception is counted at the current tick, and from Running the controller enters Exception;
nothing else changes; and the operation Writeback calls is the same (R293). -/
def Obligations.ControllerException : Prop :=
  ∀ (vector pc : Word) (s : State),
    let raised : State := { s with
      ctrl := { s.ctrl with
        excTicks := s.ctrl.excTicks ++ [s.ctrl.tick]
        pstate := if s.ctrl.pstate = .running then .exception else s.ctrl.pstate } }
    decodePacket (plainPacket 0x5300 vector pc) = .ok (.kException vector pc) ∧
    exec (.kException vector pc) s = .next { raised with resp := replyOk } ∧
    ∀ v : Nat, s.controllerException v pc = raised

/-- `K.ADVANCE` outside Exception: Starting becomes Running once every stage is Running, Stopping becomes Stopped once every stage
is Stopped, and it is refused otherwise (R287). -/
def Obligations.ControllerAdvance : Prop :=
  ∀ s : State,
    (s.ctrl.pstate = .starting → (∀ id, (s.stages.get id).life = .running) →
      exec .kAdvance s = .next { s with ctrl := { s.ctrl with pstate := .running }, resp := replyOk }) ∧
    (s.ctrl.pstate = .stopping → (∀ id, (s.stages.get id).life = .stopped) →
      exec .kAdvance s = .next { s with ctrl := { s.ctrl with pstate := .stopped }, resp := replyOk }) ∧
    ((s.ctrl.pstate = .starting ∧ (∃ id, (s.stages.get id).life ≠ .running) ∨
      s.ctrl.pstate = .stopping ∧ (∃ id, (s.stages.get id).life ≠ .stopped) ∨
      s.ctrl.pstate = .stopped ∨ s.ctrl.pstate = .running ∨ s.ctrl.pstate = .flushing) →
      exec .kAdvance s = .next { s with resp := replyError .errState })

/-- The return from an exception: the exceptions older than the window are forgotten; where more than the threshold remain, the
stages' counters and the samples are reset and the exceptions forgotten too; then a flush with `recovering` set, or Running
at once where no stage runs (R287, R290, R294, R295). -/
def Obligations.ExceptionRecovery : Prop :=
  ∀ s : State, s.ctrl.pstate = .exception →
    let recent := s.ctrl.excTicks.filter (fun x => decide (s.ctrl.tick - x < s.cfg.excWindow))
    let breaker : Prop := s.cfg.excFreqThreshold < recent.length
    let count (st : Stage) : Stage := { st with
      stats := { processed := 0, totalCycles := 0, stallCycles := 0, queueDepth := st.queue.length,
                 backpressureEvents := 0 } }
    let n := ([s.stages.f, s.stages.d, s.stages.e, s.stages.w].filter (fun x => x.life == .running)).length
    ∃ t : State, exec .kAdvance s = .next t ∧
      t.ctrl.pstate = (if n = 0 then .running else .flushing) ∧ t.ctrl.recovering = (n != 0) ∧
      t.ctrl.pendingFlush = (if n = 0 then s.ctrl.pendingFlush else n) ∧ t.ctrl.tick = s.ctrl.tick ∧
      (breaker → t.ctrl.excTicks = [] ∧ t.ctrl.utilSamples = ⟨[], [], [], []⟩ ∧
        ∀ id, t.stages.get id = (count (s.stages.get id)).flagged) ∧
      (¬ breaker → t.ctrl.excTicks = recent ∧ t.ctrl.utilSamples = s.ctrl.utilSamples ∧
        ∀ id, t.stages.get id = (s.stages.get id).flagged) ∧
      t = { s with ctrl := t.ctrl, stages := t.stages, resp := replyOk }

/-- `K.TICK`: refused when Stopped; else the tick is counted, each stage's utilization joins its rolling window and the
snapshot is published; where the controller is not Running nothing is tuned. While Running, each stage is tuned by its own
rolling average, from Fetch to Writeback: above 80 percent `BottleneckDetected` is published and the limit grows to the bounded
growth of R297, below 30 percent it shrinks no further than that rule's target, between them it stays; a Stopped stage's limit
stays. The permits change with the limit, by as many; one draw is used for each stage that shrinks; and nothing else of the
machine changes (R179, R296, R297). -/
def Obligations.TimerTunes : Prop :=
  ∀ s : State,
    let window (id : StageId) : List Rat :=
      let l := s.ctrl.utilSamples.get id ++
        [((s.stages.get id).queue.length : Rat) /
          ((min (s.cfg.queueCap.get id) (s.stages.get id).maxInFlight : Nat) : Rat)]
      l.drop (l.length - s.cfg.rollingWindow)
    let percent (id : StageId) : Rat := 100 * ((window id).sum / ((window id).length : Rat))
    let ticked : CtrlState := { s.ctrl with
      tick := s.ctrl.tick + 1, utilSamples := ⟨window .f, window .d, window .e, window .w⟩ }
    let snapshot : Event :=
      .performanceSnapshot s.stages.f.stats s.stages.d.stats s.stages.e.stats s.stages.w.stats
    let limit (id : StageId) : Nat := (s.stages.get id).maxInFlight
    let shrinks : Nat := (([.f, .d, .e, .w] : List StageId).filter (fun id =>
      decide (percent id < 30) && (s.stages.get id).life != .stopped && decide (s.cfg.limitFloor < limit id))).length
    (s.ctrl.pstate = .stopped → exec .kTick s = .next { s with resp := replyError .errState }) ∧
    (s.ctrl.pstate ≠ .stopped → s.ctrl.pstate ≠ .running → exec .kTick s = .next { s with
      ctrl := ticked
      events := s.events ++ [snapshot]
      resp := replyOk }) ∧
    (s.cfg.ok = true → s.ctrl.pstate = .running → ∃ st : StageMap Stage,
      exec .kTick s = .next { s with
        ctrl := ticked
        stages := st
        events := s.events ++ [snapshot] ++
          (([.f, .d, .e, .w] : List StageId).filter (fun id => decide (80 < percent id))).map .bottleneckDetected
        draws := ⟨s.draws.given.drop shrinks, s.draws.count + shrinks⟩
        resp := replyOk } ∧
      ∀ id : StageId,
        let m := limit id
        let m' := (st.get id).maxInFlight
        st.get id = { s.stages.get id with maxInFlight := m', freePermits := (st.get id).freePermits } ∧
        (st.get id).freePermits + m = (s.stages.get id).freePermits + m' ∧
        (80 < percent id → (s.stages.get id).life ≠ .stopped → m < s.cfg.limitCap →
          m' = min s.cfg.limitCap (max (m + 1) (m * s.cfg.growNum / s.cfg.growDen))) ∧
        (80 < percent id → (s.stages.get id).life = .stopped ∨ s.cfg.limitCap ≤ m → m' = m) ∧
        (percent id < 30 → (s.stages.get id).life ≠ .stopped → s.cfg.limitFloor < m →
          max s.cfg.limitFloor (m * s.cfg.shrinkNum / s.cfg.shrinkDen) ≤ m' ∧ m' ≤ m) ∧
        (percent id < 30 → (s.stages.get id).life = .stopped ∨ m ≤ s.cfg.limitFloor → m' = m) ∧
        (30 ≤ percent id → percent id ≤ 80 → m' = m))

/-! ## Read-out -/

/-- The read-out commands answer the low 64 bits of the value they select, in every state, and change nothing (R183, R210, R256,
R276, R300; of R152, what `C.RDSTAT` answers); their selectors have the numbers of R108, R109 and R110, and a reserved
selector is none (R110). -/
def Obligations.ReadOuts : Prop :=
  ∀ s : State,
    let asked (n : Nat) : Except Reject Instr := decodePacket (plainPacket (BitVec.ofNat 16 n) 0 0)
    (∀ l n k v, ([.l1i, .l1d, .l2, .l3] : List Level)[n]? = some l →
      ([.hits, .misses, .evictions, .writebacks] : List CacheCounter)[k]? = some v →
      asked (0x0400 + 4 * k + n) = .ok (.cRdstat l v)) ∧
    (∀ id n k v, ([.f, .d, .e, .w] : List StageId)[n]? = some id →
      ([.processed, .totalCycles, .stallCycles, .queueDepth, .backpressureEvents, .maxInFlight, .freePermits, .life] :
        List StageSel)[k]? = some v →
      asked (0x1700 + 4 * k + n) = .ok (.sRdstat id v)) ∧
    (∀ k v, ([.nextPC, .fcHits, .fcMisses, .stallCycles] : List FetchSel)[k]? = some v →
      asked (0x2300 + k) = .ok (.fRdstat v)) ∧
    (∀ k v, ([.pendingHeavyCount, .executionExceptions, .modeChanges, .jitMisses, .compilationTriggers] :
        List ExecSel)[k]? = some v →
      asked (0x3100 + k) = .ok (.xRdstat v)) ∧
    (∀ k v, ([.instructionsCommitted, .commitFailures, .branchesTaken, .branchesNotTaken, .branchRedirects,
        .excLogLength] : List WbSel)[k]? = some v →
      asked (0x4000 + k) = .ok (.wRdstat v)) ∧
    (∀ k v, ([.pstate, .pendingFlush] : List CtrlSel)[k]? = some v → asked (0x5500 + k) = .ok (.kRdstate v)) ∧
    (∀ n ∈ [0x3105, 0x3106, 0x3107, 0x4006, 0x4007], asked n = .error .reservedSelector) ∧
    (∀ (l : Level) (k : CacheCounter), exec (.cRdstat l k) s = .next { s with resp := replyWith (low64 (match k with
      | .hits => (s.sys.caches.get l).hits
      | .misses => (s.sys.caches.get l).misses
      | .evictions => (s.sys.caches.get l).evictions
      | .writebacks => (s.sys.caches.get l).writebacks)) }) ∧
    (∀ (id : StageId) (k : StageSel), exec (.sRdstat id k) s = .next { s with resp := replyWith (low64 (match k with
      | .processed => (s.stages.get id).stats.processed
      | .totalCycles => (s.stages.get id).stats.totalCycles
      | .stallCycles => (s.stages.get id).stats.stallCycles
      | .queueDepth => (s.stages.get id).stats.queueDepth
      | .backpressureEvents => (s.stages.get id).stats.backpressureEvents
      | .maxInFlight => (s.stages.get id).maxInFlight
      | .freePermits => (s.stages.get id).freePermits
      | .life => match (s.stages.get id).life with
        | .stopped => 0
        | .ready => 1
        | .running => 2)) }) ∧
    (∀ k : FetchSel, exec (.fRdstat k) s = .next { s with resp := replyWith (match k with
      | .nextPC => s.fetch.nextPC
      | .fcHits => low64 s.fetch.fcHits
      | .fcMisses => low64 s.fetch.fcMisses
      | .stallCycles => low64 s.stages.f.stats.stallCycles) }) ∧
    (∀ k : ExecSel, exec (.xRdstat k) s = .next { s with resp := replyWith (low64 (match k with
      | .pendingHeavyCount => s.ex.pendingHeavy.length
      | .executionExceptions => s.ex.executionExceptions
      | .modeChanges => s.ex.modeChanges
      | .jitMisses => s.ex.jitMisses
      | .compilationTriggers => s.ex.compilationTriggers)) }) ∧
    (∀ k : WbSel, exec (.wRdstat k) s = .next { s with resp := replyWith (low64 (match k with
      | .instructionsCommitted => s.wb.instructionsCommitted
      | .commitFailures => s.wb.commitFailures
      | .branchesTaken => s.wb.branchesTaken
      | .branchesNotTaken => s.wb.branchesNotTaken
      | .branchRedirects => s.wb.branchRedirects
      | .excLogLength => s.wb.excLog.length)) }) ∧
    (∀ k : CtrlSel, exec (.kRdstate k) s = .next { s with resp := replyWith (low64 (match k with
      | .pstate => match s.ctrl.pstate with
        | .stopped => 0
        | .starting => 1
        | .running => 2
        | .stopping => 3
        | .flushing => 4
        | .exception => 5
      | .pendingFlush => s.ctrl.pendingFlush)) })

/-! ## Register 31 -/

/-- Register 31 of either bank reads 0 whatever its slot holds, and a write to it changes nothing (R244, R341): in the register
accesses, in the registers the execution unit sees, in Writeback's load, and in an execution as a whole, which neither reads
nor changes what the slot of register 31 holds. -/
def Obligations.RegisterThirtyOne : Prop :=
  ∀ (s : State) (r : InstrRecord) (v w : Word),
    s.readInt 31 = 0 ∧ s.readFloat 31 = 0 ∧ s.writeInt 31 v = s ∧ s.writeFloat 31 v = s ∧
    (r.ra = 31 → s.writeLoad r = s) ∧
    (∀ (reads : List (Option (List Byte))) (n : Nat) (k : RegNum),
      (s.unitView r reads n).ints[k.toNat]'(k.isLt) = (if k = 31 then 0 else s.ints[k.toNat]'(k.isLt)) ∧
      (s.unitView r reads n).floats[k.toNat]'(k.isLt) = (if k = 31 then 0 else s.floats[k.toNat]'(k.isLt))) ∧
    execUnit r (s.withSlot31 v w) = ((execUnit r s).1, (execUnit r s).2.withSlot31 v w)
end

