-- ==== Sys2Proof/Laws/State.lean ====
section
/-! SUPPORT. The fields of the machine after each primitive update: one lemma per field per update, true by rfl, so that no
proof unfolds a record update; and the per-stage and per-level maps read after a write. -/

namespace Sys2Proof

@[simp] theorem LevelMap.get_set_same {α : Type} (m : LevelMap α) (k : Level) (v : α) : (m.set k v).get k = v := by
  cases k <;> rfl

theorem LevelMap.get_set_ne {α : Type} (m : LevelMap α) {k j : Level} (v : α) (h : j ≠ k) :
    (m.set k v).get j = m.get j := by
  cases k <;> cases j <;> first | rfl | exact absurd rfl h

theorem LevelMap.get_set {α : Type} (m : LevelMap α) (k j : Level) (v : α) :
    (m.set k v).get j = if j = k then v else m.get j := by
  cases k <;> cases j <;> rfl

@[simp] theorem LevelMap.set_get {α : Type} (m : LevelMap α) (k : Level) : m.set k (m.get k) = m := by
  cases k <;> rfl

@[simp] theorem LevelMap.set_set {α : Type} (m : LevelMap α) (k : Level) (v w : α) : (m.set k v).set k w = m.set k w := by
  cases k <;> rfl

@[simp] theorem LevelMap.get_l1i {α : Type} (m : LevelMap α) : m.get .l1i = m.l1i := rfl

@[simp] theorem LevelMap.get_l1d {α : Type} (m : LevelMap α) : m.get .l1d = m.l1d := rfl

@[simp] theorem LevelMap.get_l2 {α : Type} (m : LevelMap α) : m.get .l2 = m.l2 := rfl

@[simp] theorem LevelMap.get_l3 {α : Type} (m : LevelMap α) : m.get .l3 = m.l3 := rfl

@[simp] theorem LevelMap.set_l1i_l1i {α : Type} (m : LevelMap α) (v : α) : (m.set .l1i v).l1i = v := rfl

@[simp] theorem LevelMap.set_l1i_l1d {α : Type} (m : LevelMap α) (v : α) : (m.set .l1i v).l1d = m.l1d := rfl

@[simp] theorem LevelMap.set_l1i_l2 {α : Type} (m : LevelMap α) (v : α) : (m.set .l1i v).l2 = m.l2 := rfl

@[simp] theorem LevelMap.set_l1i_l3 {α : Type} (m : LevelMap α) (v : α) : (m.set .l1i v).l3 = m.l3 := rfl

@[simp] theorem LevelMap.set_l1d_l1i {α : Type} (m : LevelMap α) (v : α) : (m.set .l1d v).l1i = m.l1i := rfl

@[simp] theorem LevelMap.set_l1d_l1d {α : Type} (m : LevelMap α) (v : α) : (m.set .l1d v).l1d = v := rfl

@[simp] theorem LevelMap.set_l1d_l2 {α : Type} (m : LevelMap α) (v : α) : (m.set .l1d v).l2 = m.l2 := rfl

@[simp] theorem LevelMap.set_l1d_l3 {α : Type} (m : LevelMap α) (v : α) : (m.set .l1d v).l3 = m.l3 := rfl

@[simp] theorem LevelMap.set_l2_l1i {α : Type} (m : LevelMap α) (v : α) : (m.set .l2 v).l1i = m.l1i := rfl

@[simp] theorem LevelMap.set_l2_l1d {α : Type} (m : LevelMap α) (v : α) : (m.set .l2 v).l1d = m.l1d := rfl

@[simp] theorem LevelMap.set_l2_l2 {α : Type} (m : LevelMap α) (v : α) : (m.set .l2 v).l2 = v := rfl

@[simp] theorem LevelMap.set_l2_l3 {α : Type} (m : LevelMap α) (v : α) : (m.set .l2 v).l3 = m.l3 := rfl

@[simp] theorem LevelMap.set_l3_l1i {α : Type} (m : LevelMap α) (v : α) : (m.set .l3 v).l1i = m.l1i := rfl

@[simp] theorem LevelMap.set_l3_l1d {α : Type} (m : LevelMap α) (v : α) : (m.set .l3 v).l1d = m.l1d := rfl

@[simp] theorem LevelMap.set_l3_l2 {α : Type} (m : LevelMap α) (v : α) : (m.set .l3 v).l2 = m.l2 := rfl

@[simp] theorem LevelMap.set_l3_l3 {α : Type} (m : LevelMap α) (v : α) : (m.set .l3 v).l3 = v := rfl

@[simp] theorem StageMap.get_set_same {α : Type} (m : StageMap α) (k : StageId) (v : α) : (m.set k v).get k = v := by
  cases k <;> rfl

theorem StageMap.get_set_ne {α : Type} (m : StageMap α) {k j : StageId} (v : α) (h : j ≠ k) :
    (m.set k v).get j = m.get j := by
  cases k <;> cases j <;> first | rfl | exact absurd rfl h

theorem StageMap.get_set {α : Type} (m : StageMap α) (k j : StageId) (v : α) :
    (m.set k v).get j = if j = k then v else m.get j := by
  cases k <;> cases j <;> rfl

@[simp] theorem StageMap.set_get {α : Type} (m : StageMap α) (k : StageId) : m.set k (m.get k) = m := by
  cases k <;> rfl

@[simp] theorem StageMap.set_set {α : Type} (m : StageMap α) (k : StageId) (v w : α) : (m.set k v).set k w = m.set k w := by
  cases k <;> rfl

@[simp] theorem StageMap.get_f {α : Type} (m : StageMap α) : m.get .f = m.f := rfl

@[simp] theorem StageMap.get_d {α : Type} (m : StageMap α) : m.get .d = m.d := rfl

@[simp] theorem StageMap.get_e {α : Type} (m : StageMap α) : m.get .e = m.e := rfl

@[simp] theorem StageMap.get_w {α : Type} (m : StageMap α) : m.get .w = m.w := rfl

@[simp] theorem StageMap.set_f_f {α : Type} (m : StageMap α) (v : α) : (m.set .f v).f = v := rfl

@[simp] theorem StageMap.set_f_d {α : Type} (m : StageMap α) (v : α) : (m.set .f v).d = m.d := rfl

@[simp] theorem StageMap.set_f_e {α : Type} (m : StageMap α) (v : α) : (m.set .f v).e = m.e := rfl

@[simp] theorem StageMap.set_f_w {α : Type} (m : StageMap α) (v : α) : (m.set .f v).w = m.w := rfl

@[simp] theorem StageMap.set_d_f {α : Type} (m : StageMap α) (v : α) : (m.set .d v).f = m.f := rfl

@[simp] theorem StageMap.set_d_d {α : Type} (m : StageMap α) (v : α) : (m.set .d v).d = v := rfl

@[simp] theorem StageMap.set_d_e {α : Type} (m : StageMap α) (v : α) : (m.set .d v).e = m.e := rfl

@[simp] theorem StageMap.set_d_w {α : Type} (m : StageMap α) (v : α) : (m.set .d v).w = m.w := rfl

@[simp] theorem StageMap.set_e_f {α : Type} (m : StageMap α) (v : α) : (m.set .e v).f = m.f := rfl

@[simp] theorem StageMap.set_e_d {α : Type} (m : StageMap α) (v : α) : (m.set .e v).d = m.d := rfl

@[simp] theorem StageMap.set_e_e {α : Type} (m : StageMap α) (v : α) : (m.set .e v).e = v := rfl

@[simp] theorem StageMap.set_e_w {α : Type} (m : StageMap α) (v : α) : (m.set .e v).w = m.w := rfl

@[simp] theorem StageMap.set_w_f {α : Type} (m : StageMap α) (v : α) : (m.set .w v).f = m.f := rfl

@[simp] theorem StageMap.set_w_d {α : Type} (m : StageMap α) (v : α) : (m.set .w v).d = m.d := rfl

@[simp] theorem StageMap.set_w_e {α : Type} (m : StageMap α) (v : α) : (m.set .w v).e = m.e := rfl

@[simp] theorem StageMap.set_w_w {α : Type} (m : StageMap α) (v : α) : (m.set .w v).w = v := rfl

end Sys2Proof

namespace Sys2Proof.Machine

@[simp] theorem State.setStage_cfg (s : State) (id : StageId) (st : Stage) : (s.setStage id st).cfg = s.cfg := rfl

@[simp] theorem State.setStage_sys (s : State) (id : StageId) (st : Stage) : (s.setStage id st).sys = s.sys := rfl

@[simp] theorem State.setStage_ints (s : State) (id : StageId) (st : Stage) :
    (s.setStage id st).ints = s.ints := rfl

@[simp] theorem State.setStage_floats (s : State) (id : StageId) (st : Stage) :
    (s.setStage id st).floats = s.floats := rfl

@[simp] theorem State.setStage_stages (s : State) (id : StageId) (st : Stage) :
    (s.setStage id st).stages = s.stages.set id st := rfl

@[simp] theorem State.setStage_fetch (s : State) (id : StageId) (st : Stage) :
    (s.setStage id st).fetch = s.fetch := rfl

@[simp] theorem State.setStage_ex (s : State) (id : StageId) (st : Stage) : (s.setStage id st).ex = s.ex := rfl

@[simp] theorem State.setStage_wb (s : State) (id : StageId) (st : Stage) : (s.setStage id st).wb = s.wb := rfl

@[simp] theorem State.setStage_ctrl (s : State) (id : StageId) (st : Stage) :
    (s.setStage id st).ctrl = s.ctrl := rfl

@[simp] theorem State.setStage_events (s : State) (id : StageId) (st : Stage) :
    (s.setStage id st).events = s.events := rfl

@[simp] theorem State.setStage_jitTrace (s : State) (id : StageId) (st : Stage) :
    (s.setStage id st).jitTrace = s.jitTrace := rfl

@[simp] theorem State.setStage_port (s : State) (id : StageId) (st : Stage) :
    (s.setStage id st).port = s.port := rfl

@[simp] theorem State.setStage_resp (s : State) (id : StageId) (st : Stage) :
    (s.setStage id st).resp = s.resp := rfl

@[simp] theorem State.setStage_draws (s : State) (id : StageId) (st : Stage) :
    (s.setStage id st).draws = s.draws := rfl

@[simp] theorem State.emit_cfg (s : State) (e : Event) : (s.emit e).cfg = s.cfg := rfl

@[simp] theorem State.emit_sys (s : State) (e : Event) : (s.emit e).sys = s.sys := rfl

@[simp] theorem State.emit_ints (s : State) (e : Event) : (s.emit e).ints = s.ints := rfl

@[simp] theorem State.emit_floats (s : State) (e : Event) : (s.emit e).floats = s.floats := rfl

@[simp] theorem State.emit_stages (s : State) (e : Event) : (s.emit e).stages = s.stages := rfl

@[simp] theorem State.emit_fetch (s : State) (e : Event) : (s.emit e).fetch = s.fetch := rfl

@[simp] theorem State.emit_ex (s : State) (e : Event) : (s.emit e).ex = s.ex := rfl

@[simp] theorem State.emit_wb (s : State) (e : Event) : (s.emit e).wb = s.wb := rfl

@[simp] theorem State.emit_ctrl (s : State) (e : Event) : (s.emit e).ctrl = s.ctrl := rfl

@[simp] theorem State.emit_events (s : State) (e : Event) : (s.emit e).events = s.events ++ [e] := rfl

@[simp] theorem State.emit_jitTrace (s : State) (e : Event) : (s.emit e).jitTrace = s.jitTrace := rfl

@[simp] theorem State.emit_port (s : State) (e : Event) : (s.emit e).port = s.port := rfl

@[simp] theorem State.emit_resp (s : State) (e : Event) : (s.emit e).resp = s.resp := rfl

@[simp] theorem State.emit_draws (s : State) (e : Event) : (s.emit e).draws = s.draws := rfl

@[simp] theorem State.answer_cfg (s : State) (r : Word) (q : List Byte) : (s.answer r q).cfg = s.cfg := rfl

@[simp] theorem State.answer_sys (s : State) (r : Word) (q : List Byte) : (s.answer r q).sys = s.sys := rfl

@[simp] theorem State.answer_ints (s : State) (r : Word) (q : List Byte) : (s.answer r q).ints = s.ints := rfl

@[simp] theorem State.answer_floats (s : State) (r : Word) (q : List Byte) :
    (s.answer r q).floats = s.floats := rfl

@[simp] theorem State.answer_stages (s : State) (r : Word) (q : List Byte) :
    (s.answer r q).stages = s.stages := rfl

@[simp] theorem State.answer_fetch (s : State) (r : Word) (q : List Byte) : (s.answer r q).fetch = s.fetch := rfl

@[simp] theorem State.answer_ex (s : State) (r : Word) (q : List Byte) : (s.answer r q).ex = s.ex := rfl

@[simp] theorem State.answer_wb (s : State) (r : Word) (q : List Byte) : (s.answer r q).wb = s.wb := rfl

@[simp] theorem State.answer_ctrl (s : State) (r : Word) (q : List Byte) : (s.answer r q).ctrl = s.ctrl := rfl

@[simp] theorem State.answer_events (s : State) (r : Word) (q : List Byte) :
    (s.answer r q).events = s.events := rfl

@[simp] theorem State.answer_jitTrace (s : State) (r : Word) (q : List Byte) :
    (s.answer r q).jitTrace = s.jitTrace := rfl

@[simp] theorem State.answer_port (s : State) (r : Word) (q : List Byte) : (s.answer r q).port = s.port := rfl

@[simp] theorem State.answer_resp (s : State) (r : Word) (q : List Byte) :
    (s.answer r q).resp = some ⟨.ok, r, q⟩ := rfl

@[simp] theorem State.answer_draws (s : State) (r : Word) (q : List Byte) : (s.answer r q).draws = s.draws := rfl

@[simp] theorem State.okay_cfg (s : State) : (s.okay).cfg = s.cfg := rfl

@[simp] theorem State.okay_sys (s : State) : (s.okay).sys = s.sys := rfl

@[simp] theorem State.okay_ints (s : State) : (s.okay).ints = s.ints := rfl

@[simp] theorem State.okay_floats (s : State) : (s.okay).floats = s.floats := rfl

@[simp] theorem State.okay_stages (s : State) : (s.okay).stages = s.stages := rfl

@[simp] theorem State.okay_fetch (s : State) : (s.okay).fetch = s.fetch := rfl

@[simp] theorem State.okay_ex (s : State) : (s.okay).ex = s.ex := rfl

@[simp] theorem State.okay_wb (s : State) : (s.okay).wb = s.wb := rfl

@[simp] theorem State.okay_ctrl (s : State) : (s.okay).ctrl = s.ctrl := rfl

@[simp] theorem State.okay_events (s : State) : (s.okay).events = s.events := rfl

@[simp] theorem State.okay_jitTrace (s : State) : (s.okay).jitTrace = s.jitTrace := rfl

@[simp] theorem State.okay_port (s : State) : (s.okay).port = s.port := rfl

@[simp] theorem State.okay_resp (s : State) : (s.okay).resp = some ⟨.ok, 0, []⟩ := rfl

@[simp] theorem State.okay_draws (s : State) : (s.okay).draws = s.draws := rfl

@[simp] theorem State.refuse_cfg (s : State) (c : Status) : (s.refuse c).cfg = s.cfg := rfl

@[simp] theorem State.refuse_sys (s : State) (c : Status) : (s.refuse c).sys = s.sys := rfl

@[simp] theorem State.refuse_ints (s : State) (c : Status) : (s.refuse c).ints = s.ints := rfl

@[simp] theorem State.refuse_floats (s : State) (c : Status) : (s.refuse c).floats = s.floats := rfl

@[simp] theorem State.refuse_stages (s : State) (c : Status) : (s.refuse c).stages = s.stages := rfl

@[simp] theorem State.refuse_fetch (s : State) (c : Status) : (s.refuse c).fetch = s.fetch := rfl

@[simp] theorem State.refuse_ex (s : State) (c : Status) : (s.refuse c).ex = s.ex := rfl

@[simp] theorem State.refuse_wb (s : State) (c : Status) : (s.refuse c).wb = s.wb := rfl

@[simp] theorem State.refuse_ctrl (s : State) (c : Status) : (s.refuse c).ctrl = s.ctrl := rfl

@[simp] theorem State.refuse_events (s : State) (c : Status) : (s.refuse c).events = s.events := rfl

@[simp] theorem State.refuse_jitTrace (s : State) (c : Status) : (s.refuse c).jitTrace = s.jitTrace := rfl

@[simp] theorem State.refuse_port (s : State) (c : Status) : (s.refuse c).port = s.port := rfl

@[simp] theorem State.refuse_resp (s : State) (c : Status) : (s.refuse c).resp = some ⟨c, 0, []⟩ := rfl

@[simp] theorem State.refuse_draws (s : State) (c : Status) : (s.refuse c).draws = s.draws := rfl

@[simp] theorem State.flushAck_cfg (s : State) : (s.flushAck).cfg = s.cfg := rfl

@[simp] theorem State.flushAck_sys (s : State) : (s.flushAck).sys = s.sys := rfl

@[simp] theorem State.flushAck_ints (s : State) : (s.flushAck).ints = s.ints := rfl

@[simp] theorem State.flushAck_floats (s : State) : (s.flushAck).floats = s.floats := rfl

@[simp] theorem State.flushAck_stages (s : State) : (s.flushAck).stages = s.stages := rfl

@[simp] theorem State.flushAck_fetch (s : State) : (s.flushAck).fetch = s.fetch := rfl

@[simp] theorem State.flushAck_ex (s : State) : (s.flushAck).ex = s.ex := rfl

@[simp] theorem State.flushAck_wb (s : State) : (s.flushAck).wb = s.wb := rfl

@[simp] theorem State.flushAck_ctrl (s : State) : (s.flushAck).ctrl = s.ctrl.flushAck := rfl

@[simp] theorem State.flushAck_events (s : State) : (s.flushAck).events = s.events := rfl

@[simp] theorem State.flushAck_jitTrace (s : State) : (s.flushAck).jitTrace = s.jitTrace := rfl

@[simp] theorem State.flushAck_port (s : State) : (s.flushAck).port = s.port := rfl

@[simp] theorem State.flushAck_resp (s : State) : (s.flushAck).resp = s.resp := rfl

@[simp] theorem State.flushAck_draws (s : State) : (s.flushAck).draws = s.draws := rfl

@[simp] theorem State.setPState_cfg (s : State) (p : PState) : (s.setPState p).cfg = s.cfg := rfl

@[simp] theorem State.setPState_sys (s : State) (p : PState) : (s.setPState p).sys = s.sys := rfl

@[simp] theorem State.setPState_ints (s : State) (p : PState) : (s.setPState p).ints = s.ints := rfl

@[simp] theorem State.setPState_floats (s : State) (p : PState) : (s.setPState p).floats = s.floats := rfl

@[simp] theorem State.setPState_stages (s : State) (p : PState) : (s.setPState p).stages = s.stages := rfl

@[simp] theorem State.setPState_fetch (s : State) (p : PState) : (s.setPState p).fetch = s.fetch := rfl

@[simp] theorem State.setPState_ex (s : State) (p : PState) : (s.setPState p).ex = s.ex := rfl

@[simp] theorem State.setPState_wb (s : State) (p : PState) : (s.setPState p).wb = s.wb := rfl

@[simp] theorem State.setPState_ctrl (s : State) (p : PState) :
    (s.setPState p).ctrl = { s.ctrl with pstate := p } := rfl

@[simp] theorem State.setPState_events (s : State) (p : PState) : (s.setPState p).events = s.events := rfl

@[simp] theorem State.setPState_jitTrace (s : State) (p : PState) : (s.setPState p).jitTrace = s.jitTrace := rfl

@[simp] theorem State.setPState_port (s : State) (p : PState) : (s.setPState p).port = s.port := rfl

@[simp] theorem State.setPState_resp (s : State) (p : PState) : (s.setPState p).resp = s.resp := rfl

@[simp] theorem State.setPState_draws (s : State) (p : PState) : (s.setPState p).draws = s.draws := rfl

@[simp] theorem State.draw_cfg (s : State) : (s.draw.2).cfg = s.cfg := rfl

@[simp] theorem State.draw_sys (s : State) : (s.draw.2).sys = s.sys := rfl

@[simp] theorem State.draw_ints (s : State) : (s.draw.2).ints = s.ints := rfl

@[simp] theorem State.draw_floats (s : State) : (s.draw.2).floats = s.floats := rfl

@[simp] theorem State.draw_stages (s : State) : (s.draw.2).stages = s.stages := rfl

@[simp] theorem State.draw_fetch (s : State) : (s.draw.2).fetch = s.fetch := rfl

@[simp] theorem State.draw_ex (s : State) : (s.draw.2).ex = s.ex := rfl

@[simp] theorem State.draw_wb (s : State) : (s.draw.2).wb = s.wb := rfl

@[simp] theorem State.draw_ctrl (s : State) : (s.draw.2).ctrl = s.ctrl := rfl

@[simp] theorem State.draw_events (s : State) : (s.draw.2).events = s.events := rfl

@[simp] theorem State.draw_jitTrace (s : State) : (s.draw.2).jitTrace = s.jitTrace := rfl

@[simp] theorem State.draw_port (s : State) : (s.draw.2).port = s.port := rfl

@[simp] theorem State.draw_resp (s : State) : (s.draw.2).resp = s.resp := rfl

@[simp] theorem State.draw_draws (s : State) : (s.draw.2).draws = (s.draws.next Config.freeDraw).2 := rfl

@[simp] theorem State.scheduled_cfg (s : State) : (s.scheduled).cfg = s.cfg := rfl

@[simp] theorem State.scheduled_sys (s : State) : (s.scheduled).sys = s.sys := rfl

@[simp] theorem State.scheduled_ints (s : State) : (s.scheduled).ints = s.ints := rfl

@[simp] theorem State.scheduled_floats (s : State) : (s.scheduled).floats = s.floats := rfl

@[simp] theorem State.scheduled_stages (s : State) : (s.scheduled).stages = s.stages := rfl

@[simp] theorem State.scheduled_fetch (s : State) : (s.scheduled).fetch = s.fetch := rfl

@[simp] theorem State.scheduled_ex (s : State) : (s.scheduled).ex = s.ex := rfl

@[simp] theorem State.scheduled_wb (s : State) : (s.scheduled).wb = s.wb := rfl

@[simp] theorem State.scheduled_ctrl (s : State) : (s.scheduled).ctrl = s.ctrl := rfl

@[simp] theorem State.scheduled_events (s : State) : (s.scheduled).events = s.events := rfl

@[simp] theorem State.scheduled_jitTrace (s : State) : (s.scheduled).jitTrace = s.jitTrace := rfl

@[simp] theorem State.scheduled_port (s : State) : (s.scheduled).port = s.port := rfl

@[simp] theorem State.scheduled_resp (s : State) : (s.scheduled).resp = s.resp := rfl

@[simp] theorem State.scheduled_draws (s : State) : (s.scheduled).draws = (s.draws.next Config.freeDraw).2 := rfl

@[simp] theorem State.installFc_cfg (s : State) (pc : Word) (k : Nat) (v : IWord) :
    (s.installFc pc k v).cfg = s.cfg := rfl

@[simp] theorem State.installFc_sys (s : State) (pc : Word) (k : Nat) (v : IWord) :
    (s.installFc pc k v).sys = s.sys := rfl

@[simp] theorem State.installFc_ints (s : State) (pc : Word) (k : Nat) (v : IWord) :
    (s.installFc pc k v).ints = s.ints := rfl

@[simp] theorem State.installFc_floats (s : State) (pc : Word) (k : Nat) (v : IWord) :
    (s.installFc pc k v).floats = s.floats := rfl

@[simp] theorem State.installFc_stages (s : State) (pc : Word) (k : Nat) (v : IWord) :
    (s.installFc pc k v).stages = s.stages := rfl

@[simp] theorem State.installFc_fetch (s : State) (pc : Word) (k : Nat) (v : IWord) :
    (s.installFc pc k v).fetch = { s.fetch with fc := fcInstall s.cfg s.fetch.fc pc k v } := rfl

@[simp] theorem State.installFc_ex (s : State) (pc : Word) (k : Nat) (v : IWord) :
    (s.installFc pc k v).ex = s.ex := rfl

@[simp] theorem State.installFc_wb (s : State) (pc : Word) (k : Nat) (v : IWord) :
    (s.installFc pc k v).wb = s.wb := rfl

@[simp] theorem State.installFc_ctrl (s : State) (pc : Word) (k : Nat) (v : IWord) :
    (s.installFc pc k v).ctrl = s.ctrl := rfl

@[simp] theorem State.installFc_events (s : State) (pc : Word) (k : Nat) (v : IWord) :
    (s.installFc pc k v).events = s.events := rfl

@[simp] theorem State.installFc_jitTrace (s : State) (pc : Word) (k : Nat) (v : IWord) :
    (s.installFc pc k v).jitTrace = s.jitTrace := rfl

@[simp] theorem State.installFc_port (s : State) (pc : Word) (k : Nat) (v : IWord) :
    (s.installFc pc k v).port = s.port := rfl

@[simp] theorem State.installFc_resp (s : State) (pc : Word) (k : Nat) (v : IWord) :
    (s.installFc pc k v).resp = s.resp := rfl

@[simp] theorem State.installFc_draws (s : State) (pc : Word) (k : Nat) (v : IWord) :
    (s.installFc pc k v).draws = s.draws := rfl

@[simp] theorem State.dispatchHeavy_cfg (s : State) (r : InstrRecord) : (s.dispatchHeavy r).cfg = s.cfg := rfl

@[simp] theorem State.dispatchHeavy_sys (s : State) (r : InstrRecord) : (s.dispatchHeavy r).sys = s.sys := rfl

@[simp] theorem State.dispatchHeavy_ints (s : State) (r : InstrRecord) : (s.dispatchHeavy r).ints = s.ints := rfl

@[simp] theorem State.dispatchHeavy_floats (s : State) (r : InstrRecord) :
    (s.dispatchHeavy r).floats = s.floats := rfl

@[simp] theorem State.dispatchHeavy_stages (s : State) (r : InstrRecord) :
    (s.dispatchHeavy r).stages = s.stages := rfl

@[simp] theorem State.dispatchHeavy_fetch (s : State) (r : InstrRecord) :
    (s.dispatchHeavy r).fetch = s.fetch := rfl

@[simp] theorem State.dispatchHeavy_ex (s : State) (r : InstrRecord) :
    (s.dispatchHeavy r).ex = { s.ex with pendingHeavy := s.ex.pendingHeavy ++ [(s.ex.heavySeq, r)], heavySeq := s.ex.heavySeq + 1 } := rfl

@[simp] theorem State.dispatchHeavy_wb (s : State) (r : InstrRecord) : (s.dispatchHeavy r).wb = s.wb := rfl

@[simp] theorem State.dispatchHeavy_ctrl (s : State) (r : InstrRecord) : (s.dispatchHeavy r).ctrl = s.ctrl := rfl

@[simp] theorem State.dispatchHeavy_events (s : State) (r : InstrRecord) :
    (s.dispatchHeavy r).events = s.events := rfl

@[simp] theorem State.dispatchHeavy_jitTrace (s : State) (r : InstrRecord) :
    (s.dispatchHeavy r).jitTrace = s.jitTrace := rfl

@[simp] theorem State.dispatchHeavy_port (s : State) (r : InstrRecord) : (s.dispatchHeavy r).port = s.port := rfl

@[simp] theorem State.dispatchHeavy_resp (s : State) (r : InstrRecord) : (s.dispatchHeavy r).resp = s.resp := rfl

@[simp] theorem State.dispatchHeavy_draws (s : State) (r : InstrRecord) :
    (s.dispatchHeavy r).draws = s.draws := rfl

@[simp] theorem State.takeHeavy_cfg (s : State) (id : Nat) : (s.takeHeavy id).cfg = s.cfg := rfl

@[simp] theorem State.takeHeavy_sys (s : State) (id : Nat) : (s.takeHeavy id).sys = s.sys := rfl

@[simp] theorem State.takeHeavy_ints (s : State) (id : Nat) : (s.takeHeavy id).ints = s.ints := rfl

@[simp] theorem State.takeHeavy_floats (s : State) (id : Nat) : (s.takeHeavy id).floats = s.floats := rfl

@[simp] theorem State.takeHeavy_stages (s : State) (id : Nat) : (s.takeHeavy id).stages = s.stages := rfl

@[simp] theorem State.takeHeavy_fetch (s : State) (id : Nat) : (s.takeHeavy id).fetch = s.fetch := rfl

@[simp] theorem State.takeHeavy_ex (s : State) (id : Nat) :
    (s.takeHeavy id).ex = { s.ex with pendingHeavy := s.ex.pendingHeavy.filter (fun p => p.1 != id) } := rfl

@[simp] theorem State.takeHeavy_wb (s : State) (id : Nat) : (s.takeHeavy id).wb = s.wb := rfl

@[simp] theorem State.takeHeavy_ctrl (s : State) (id : Nat) : (s.takeHeavy id).ctrl = s.ctrl := rfl

@[simp] theorem State.takeHeavy_events (s : State) (id : Nat) : (s.takeHeavy id).events = s.events := rfl

@[simp] theorem State.takeHeavy_jitTrace (s : State) (id : Nat) : (s.takeHeavy id).jitTrace = s.jitTrace := rfl

@[simp] theorem State.takeHeavy_port (s : State) (id : Nat) : (s.takeHeavy id).port = s.port := rfl

@[simp] theorem State.takeHeavy_resp (s : State) (id : Nat) : (s.takeHeavy id).resp = s.resp := rfl

@[simp] theorem State.takeHeavy_draws (s : State) (id : Nat) : (s.takeHeavy id).draws = s.draws := rfl

@[simp] theorem State.recordExecution_cfg (s : State) (r : InstrRecord) : (s.recordExecution r).cfg = s.cfg := rfl

@[simp] theorem State.recordExecution_sys (s : State) (r : InstrRecord) : (s.recordExecution r).sys = s.sys := rfl

@[simp] theorem State.recordExecution_ints (s : State) (r : InstrRecord) :
    (s.recordExecution r).ints = s.ints := rfl

@[simp] theorem State.recordExecution_floats (s : State) (r : InstrRecord) :
    (s.recordExecution r).floats = s.floats := rfl

@[simp] theorem State.recordExecution_stages (s : State) (r : InstrRecord) :
    (s.recordExecution r).stages = s.stages := rfl

@[simp] theorem State.recordExecution_fetch (s : State) (r : InstrRecord) :
    (s.recordExecution r).fetch = s.fetch := rfl

@[simp] theorem State.recordExecution_ex (s : State) (r : InstrRecord) : (s.recordExecution r).ex = s.ex := rfl

@[simp] theorem State.recordExecution_wb (s : State) (r : InstrRecord) : (s.recordExecution r).wb = s.wb := rfl

@[simp] theorem State.recordExecution_ctrl (s : State) (r : InstrRecord) :
    (s.recordExecution r).ctrl = s.ctrl := rfl

@[simp] theorem State.recordExecution_events (s : State) (r : InstrRecord) :
    (s.recordExecution r).events = s.events := rfl

@[simp] theorem State.recordExecution_jitTrace (s : State) (r : InstrRecord) :
    (s.recordExecution r).jitTrace = s.jitTrace ++ [(r.pc, r.raw)] := rfl

@[simp] theorem State.recordExecution_port (s : State) (r : InstrRecord) :
    (s.recordExecution r).port = s.port := rfl

@[simp] theorem State.recordExecution_resp (s : State) (r : InstrRecord) :
    (s.recordExecution r).resp = s.resp := rfl

@[simp] theorem State.recordExecution_draws (s : State) (r : InstrRecord) :
    (s.recordExecution r).draws = s.draws := rfl

@[simp] theorem State.hasCompiledBlock_cfg (s : State) : (s.hasCompiledBlock.2).cfg = s.cfg := rfl

@[simp] theorem State.hasCompiledBlock_sys (s : State) : (s.hasCompiledBlock.2).sys = s.sys := rfl

@[simp] theorem State.hasCompiledBlock_ints (s : State) : (s.hasCompiledBlock.2).ints = s.ints := rfl

@[simp] theorem State.hasCompiledBlock_floats (s : State) : (s.hasCompiledBlock.2).floats = s.floats := rfl

@[simp] theorem State.hasCompiledBlock_stages (s : State) : (s.hasCompiledBlock.2).stages = s.stages := rfl

@[simp] theorem State.hasCompiledBlock_fetch (s : State) : (s.hasCompiledBlock.2).fetch = s.fetch := rfl

@[simp] theorem State.hasCompiledBlock_ex (s : State) : (s.hasCompiledBlock.2).ex = s.ex := rfl

@[simp] theorem State.hasCompiledBlock_wb (s : State) : (s.hasCompiledBlock.2).wb = s.wb := rfl

@[simp] theorem State.hasCompiledBlock_ctrl (s : State) : (s.hasCompiledBlock.2).ctrl = s.ctrl := rfl

@[simp] theorem State.hasCompiledBlock_events (s : State) : (s.hasCompiledBlock.2).events = s.events := rfl

@[simp] theorem State.hasCompiledBlock_jitTrace (s : State) : (s.hasCompiledBlock.2).jitTrace = s.jitTrace := rfl

@[simp] theorem State.hasCompiledBlock_port (s : State) : (s.hasCompiledBlock.2).port = s.port := rfl

@[simp] theorem State.hasCompiledBlock_resp (s : State) : (s.hasCompiledBlock.2).resp = s.resp := rfl

@[simp] theorem State.hasCompiledBlock_draws (s : State) :
    (s.hasCompiledBlock.2).draws = (s.draws.next Config.freeDraw).2 := rfl

@[simp] theorem State.setStage_stage_same (s : State) (id : StageId) (st : Stage) : (s.setStage id st).stage id = st := by
  simp [State.stage]

theorem State.setStage_stage_ne (s : State) {id j : StageId} (st : Stage) (h : j ≠ id) :
    (s.setStage id st).stage j = s.stage j := by
  simp [State.stage, StageMap.get_set_ne _ _ h]

@[simp] theorem State.emit_stage (s : State) (e : Event) (j : StageId) : (s.emit e).stage j = s.stage j := rfl

@[simp] theorem State.answer_stage (s : State) (r : Word) (q : List Byte) (j : StageId) : (s.answer r q).stage j = s.stage j := rfl

@[simp] theorem State.okay_stage (s : State) (j : StageId) : (s.okay).stage j = s.stage j := rfl

@[simp] theorem State.refuse_stage (s : State) (c : Status) (j : StageId) : (s.refuse c).stage j = s.stage j := rfl

@[simp] theorem State.flushAck_stage (s : State) (j : StageId) : (s.flushAck).stage j = s.stage j := rfl

@[simp] theorem State.setPState_stage (s : State) (p : PState) (j : StageId) : (s.setPState p).stage j = s.stage j := rfl

@[simp] theorem State.draw_stage (s : State) (j : StageId) : (s.draw.2).stage j = s.stage j := rfl

@[simp] theorem State.scheduled_stage (s : State) (j : StageId) : (s.scheduled).stage j = s.stage j := rfl

@[simp] theorem State.installFc_stage (s : State) (pc : Word) (k : Nat) (v : IWord) (j : StageId) : (s.installFc pc k v).stage j = s.stage j := rfl

@[simp] theorem State.dispatchHeavy_stage (s : State) (r : InstrRecord) (j : StageId) : (s.dispatchHeavy r).stage j = s.stage j := rfl

@[simp] theorem State.takeHeavy_stage (s : State) (id : Nat) (j : StageId) : (s.takeHeavy id).stage j = s.stage j := rfl

@[simp] theorem State.recordExecution_stage (s : State) (r : InstrRecord) (j : StageId) : (s.recordExecution r).stage j = s.stage j := rfl

@[simp] theorem State.hasCompiledBlock_stage (s : State) (j : StageId) : (s.hasCompiledBlock.2).stage j = s.stage j := rfl

end Sys2Proof.Machine
end

