-- ==== Sys2Proof/Laws/Memory.lean ====
section
/-! SUPPORT. Main memory: every operation keeps the canonical form; a read after a write. -/

namespace Sys2Proof.Machine

theorem Memory.wfFrom_mono {lo lo' : Nat} (h : lo' ≤ lo) : ∀ {m : Memory}, Memory.wfFrom lo m = true →
    Memory.wfFrom lo' m = true
  | [], _ => rfl
  | (k, v) :: t, hm => by
    simp only [Memory.wfFrom, Bool.and_eq_true, decide_eq_true_eq] at hm ⊢
    exact ⟨⟨⟨le_trans h hm.1.1.1, hm.1.1.2⟩, hm.1.2⟩, hm.2⟩

theorem Memory.insert_wfFrom {a : Nat} {b : Byte} (ha : a < 2 ^ 64) (hb : b ≠ unlistedByte) :
    ∀ {lo : Nat} {m : Memory}, lo ≤ a → Memory.wfFrom lo m = true → Memory.wfFrom lo (Memory.insert m a b) = true
  | lo, [], hlo, _ => by simp [-Nat.reducePow, Memory.insert, Memory.wfFrom, hlo, ha, hb]
  | lo, (k, v) :: t, hlo, hm => by
    simp only [Memory.wfFrom, Bool.and_eq_true, decide_eq_true_eq] at hm
    obtain ⟨⟨⟨h1, h2⟩, h3⟩, h4⟩ := hm
    unfold Memory.insert
    split
    · rename_i hak
      simp [-Nat.reducePow, Memory.wfFrom, hlo, ha, hb, h2, h3, h4, Nat.succ_le_of_lt hak]
    · split
      · rename_i hak
        subst hak
        simp [-Nat.reducePow, Memory.wfFrom, hlo, ha, hb, h4]
      · rename_i h5 h6
        have : k + 1 ≤ a := by omega
        simp [-Nat.reducePow, Memory.wfFrom, h1, h2, h3, Memory.insert_wfFrom ha hb this h4]

theorem Memory.erase_wfFrom {a : Nat} : ∀ {lo : Nat} {m : Memory}, Memory.wfFrom lo m = true →
    Memory.wfFrom lo (Memory.erase m a) = true
  | _, [], _ => rfl
  | lo, (k, v) :: t, hm => by
    simp only [Memory.wfFrom, Bool.and_eq_true, decide_eq_true_eq] at hm
    obtain ⟨⟨⟨h1, h2⟩, h3⟩, h4⟩ := hm
    unfold Memory.erase
    split
    · exact Memory.wfFrom_mono (by omega) h4
    · simp [-Nat.reducePow, Memory.wfFrom, h1, h2, h3, Memory.erase_wfFrom h4]

theorem Memory.writeByte_wf {m : Memory} {a : Nat} (b : Byte) (ha : a < 2 ^ 64) (hm : m.wf = true) :
    (m.writeByte a b).wf = true := by
  unfold Memory.writeByte
  split
  · exact Memory.erase_wfFrom hm
  · rename_i hb
    exact Memory.insert_wfFrom ha hb (Nat.zero_le _) hm

theorem Memory.writeBytes_wf : ∀ (bs : List Byte) {m : Memory} (a : Word), m.wf = true → (m.writeBytes a bs).wf = true
  | [], _, _, hm => hm
  | b :: bs, _, a, hm => Memory.writeBytes_wf bs (a + 1) (Memory.writeByte_wf b a.isLt hm)

theorem Memory.empty_wf : Memory.wf [] = true := rfl

/-- Reset lists nothing, so its memory has the canonical form. -/
theorem reset_mem_wf : State.reset.sys.mem.wf = true := rfl

theorem Memory.readByte_insert (a x : Nat) (b : Byte) : ∀ m : Memory,
    (Memory.insert m a b).readByte x = if x = a then b else m.readByte x
  | [] => by simp [Memory.insert, Memory.readByte]
  | (k, v) :: t => by
    unfold Memory.insert
    split
    · simp [Memory.readByte]
    · split
      · rename_i hak
        subst hak
        simp only [Memory.readByte]
        split <;> simp_all
      · rename_i h1 h2
        simp only [Memory.readByte, Memory.readByte_insert a x b t]
        by_cases hx : x = k
        · subst hx
          simp [Ne.symm h2]
        · simp [hx]

theorem Memory.readByte_below {lo x : Nat} (hx : x < lo) : ∀ {m : Memory}, Memory.wfFrom lo m = true →
    m.readByte x = unlistedByte
  | [], _ => rfl
  | (k, v) :: t, hm => by
    simp only [Memory.wfFrom, Bool.and_eq_true, decide_eq_true_eq] at hm
    have h1 : lo ≤ k := hm.1.1.1
    have : ¬ x = k := by omega
    simp only [Memory.readByte, this, if_false]
    exact Memory.readByte_below (show x < k + 1 by omega) hm.2

theorem Memory.readByte_erase (a x : Nat) : ∀ {lo : Nat} {m : Memory}, Memory.wfFrom lo m = true →
    (Memory.erase m a).readByte x = if x = a then unlistedByte else m.readByte x
  | _, [], _ => by simp [Memory.erase, Memory.readByte]
  | lo, (k, v) :: t, hm => by
    simp only [Memory.wfFrom, Bool.and_eq_true, decide_eq_true_eq] at hm
    unfold Memory.erase
    split
    · rename_i hak
      subst hak
      by_cases hx : x = a
      · subst hx
        simp [Memory.readByte_below (Nat.lt_succ_self x) hm.2]
      · simp [Memory.readByte, hx]
    · rename_i hak
      simp only [Memory.readByte, Memory.readByte_erase a x hm.2]
      by_cases hx : x = k
      · subst hx
        simp [Ne.symm hak]
      · simp [hx]

/-- A read after a one-byte write: the byte written at its own address, every other address as before. -/
theorem Memory.readByte_writeByte {m : Memory} (hm : m.wf = true) (a x : Nat) (b : Byte) :
    (m.writeByte a b).readByte x = if x = a then b else m.readByte x := by
  unfold Memory.writeByte
  split
  · rename_i hb
    rw [Memory.readByte_erase a x hm, hb]
  · exact Memory.readByte_insert a x b m

@[simp] theorem Memory.readBytes_length (m : Memory) : ∀ (n : Nat) (a : Word), (m.readBytes a n).length = n
  | 0, _ => rfl
  | n + 1, a => by simp [Memory.readBytes, Memory.readBytes_length m n]

theorem Memory.readBytes_getD (m : Memory) : ∀ (n : Nat) (a : Word) (k : Nat) (d : Byte), k < n →
    (m.readBytes a n).getD k d = m.readByte (a + BitVec.ofNat 64 k).toNat
  | 0, _, _, _, h => absurd h (Nat.not_lt_zero _)
  | n + 1, a, 0, d, _ => by simp [Memory.readBytes]
  | n + 1, a, k + 1, d, h => by
    have hk : k < n := by omega
    have := Memory.readBytes_getD m n (a + 1) k d hk
    have e : a + 1 + BitVec.ofNat 64 k = a + BitVec.ofNat 64 (k + 1) := by
      rw [BitVec.add_assoc]; congr 1
      apply BitVec.eq_of_toNat_eq
      simp [BitVec.toNat_add, Nat.add_comm]
    rw [e] at this; simpa [-BitVec.toNat_add, Memory.readBytes] using this

/-- A write of bytes leaves every address outside them alone. -/
theorem Memory.readByte_writeBytes_outside : ∀ (bs : List Byte) {m : Memory}, m.wf = true → ∀ (a : Word) (x : Nat),
    (∀ k < bs.length, x ≠ (a + BitVec.ofNat 64 k).toNat) → (m.writeBytes a bs).readByte x = m.readByte x
  | [], _, _, _, _, _ => rfl
  | b :: bs, m, hm, a, x, h => by
    have h0 : x ≠ a.toNat := by simpa using h 0 (by simp)
    have hrest : ∀ k < bs.length, x ≠ (a + 1 + BitVec.ofNat 64 k).toNat := by
      intro k hk
      have := h (k + 1) (by simpa using hk)
      have e : a + 1 + BitVec.ofNat 64 k = a + BitVec.ofNat 64 (k + 1) := by
        rw [BitVec.add_assoc]; congr 1
        apply BitVec.eq_of_toNat_eq
        simp [BitVec.toNat_add, Nat.add_comm]
      rwa [e]
    rw [Memory.writeBytes,
      Memory.readByte_writeBytes_outside bs (Memory.writeByte_wf b a.isLt hm) (a + 1) x hrest,
      Memory.readByte_writeByte hm]
    simp [h0]

end Sys2Proof.Machine
end

