-- ==== Sys2Proof/Laws/Ops.lean ====
section
/-! SUPPORT. What each shared operation leaves unchanged (a frame per operation, every field it does not write), and what it does
in each of its cases. -/

namespace Sys2Proof.Machine

@[simp] theorem State.stall_frame (s : State) (id : StageId) :
    (s.stall id).cfg = s.cfg ∧ (s.stall id).sys = s.sys ∧ (s.stall id).ints = s.ints ∧
    (s.stall id).floats = s.floats ∧ (s.stall id).fetch = s.fetch ∧ (s.stall id).ex = s.ex ∧
    (s.stall id).wb = s.wb ∧ (s.stall id).ctrl = s.ctrl ∧ (s.stall id).jitTrace = s.jitTrace ∧
    (s.stall id).port = s.port ∧ (s.stall id).resp = s.resp ∧ (s.stall id).draws = s.draws := by
  simp [State.stall]

@[simp] theorem State.beginFlush_frame (s : State) :
    (s.beginFlush).cfg = s.cfg ∧ (s.beginFlush).sys = s.sys ∧ (s.beginFlush).ints = s.ints ∧
    (s.beginFlush).floats = s.floats ∧ (s.beginFlush).fetch = s.fetch ∧ (s.beginFlush).ex = s.ex ∧
    (s.beginFlush).wb = s.wb ∧ (s.beginFlush).events = s.events ∧ (s.beginFlush).jitTrace = s.jitTrace ∧
    (s.beginFlush).port = s.port ∧ (s.beginFlush).resp = s.resp ∧ (s.beginFlush).draws = s.draws := by
  unfold State.beginFlush
  split <;> simp

@[simp] theorem State.controllerBranch_frame (s : State) (pc t : Word) :
    (s.controllerBranch pc t).cfg = s.cfg ∧ (s.controllerBranch pc t).sys = s.sys ∧ (s.controllerBranch pc t).ints = s.ints ∧
    (s.controllerBranch pc t).floats = s.floats ∧ (s.controllerBranch pc t).fetch = s.fetch ∧ (s.controllerBranch pc t).ex = s.ex ∧
    (s.controllerBranch pc t).wb = s.wb ∧ (s.controllerBranch pc t).events = s.events ∧ (s.controllerBranch pc t).jitTrace = s.jitTrace ∧
    (s.controllerBranch pc t).port = s.port ∧ (s.controllerBranch pc t).resp = s.resp ∧ (s.controllerBranch pc t).draws = s.draws := by
  unfold State.controllerBranch
  split <;> simp

@[simp] theorem State.controllerException_frame (s : State) (v : Nat) (pc : Word) :
    (s.controllerException v pc).cfg = s.cfg ∧ (s.controllerException v pc).sys = s.sys ∧ (s.controllerException v pc).ints = s.ints ∧
    (s.controllerException v pc).floats = s.floats ∧ (s.controllerException v pc).stages = s.stages ∧ (s.controllerException v pc).fetch = s.fetch ∧
    (s.controllerException v pc).ex = s.ex ∧ (s.controllerException v pc).wb = s.wb ∧ (s.controllerException v pc).events = s.events ∧
    (s.controllerException v pc).jitTrace = s.jitTrace ∧ (s.controllerException v pc).port = s.port ∧ (s.controllerException v pc).resp = s.resp ∧
    (s.controllerException v pc).draws = s.draws := by
  simp [State.controllerException]

@[simp] theorem State.raiseException_frame (s : State) (r : InstrRecord) :
    (s.raiseException r).cfg = s.cfg ∧ (s.raiseException r).sys = s.sys ∧ (s.raiseException r).ints = s.ints ∧
    (s.raiseException r).floats = s.floats ∧ (s.raiseException r).stages = s.stages ∧ (s.raiseException r).fetch = s.fetch ∧
    (s.raiseException r).ex = s.ex ∧ (s.raiseException r).jitTrace = s.jitTrace ∧ (s.raiseException r).port = s.port ∧
    (s.raiseException r).resp = s.resp ∧ (s.raiseException r).draws = s.draws := by
  simp [State.raiseException]

@[simp] theorem State.resetPerformanceCounters_frame (s : State) :
    (s.resetPerformanceCounters).cfg = s.cfg ∧ (s.resetPerformanceCounters).sys = s.sys ∧ (s.resetPerformanceCounters).ints = s.ints ∧
    (s.resetPerformanceCounters).floats = s.floats ∧ (s.resetPerformanceCounters).fetch = s.fetch ∧ (s.resetPerformanceCounters).ex = s.ex ∧
    (s.resetPerformanceCounters).wb = s.wb ∧ (s.resetPerformanceCounters).events = s.events ∧ (s.resetPerformanceCounters).jitTrace = s.jitTrace ∧
    (s.resetPerformanceCounters).port = s.port ∧ (s.resetPerformanceCounters).resp = s.resp ∧ (s.resetPerformanceCounters).draws = s.draws := by
  simp [State.resetPerformanceCounters]

@[simp] theorem State.recover_frame (s : State) :
    (s.recover).cfg = s.cfg ∧ (s.recover).sys = s.sys ∧ (s.recover).ints = s.ints ∧
    (s.recover).floats = s.floats ∧ (s.recover).fetch = s.fetch ∧ (s.recover).ex = s.ex ∧
    (s.recover).wb = s.wb ∧ (s.recover).events = s.events ∧ (s.recover).jitTrace = s.jitTrace ∧
    (s.recover).port = s.port ∧ (s.recover).resp = s.resp ∧ (s.recover).draws = s.draws := by
  unfold State.recover
  split <;> simp

/-! ## Stages -/

@[simp] theorem State.initPrivate_frame (s : State) (id : StageId) :
    (s.initPrivate id).cfg = s.cfg ∧ (s.initPrivate id).sys = s.sys ∧ (s.initPrivate id).ints = s.ints ∧
    (s.initPrivate id).floats = s.floats ∧ (s.initPrivate id).stages = s.stages ∧ (s.initPrivate id).ctrl = s.ctrl ∧
    (s.initPrivate id).events = s.events ∧ (s.initPrivate id).jitTrace = s.jitTrace ∧ (s.initPrivate id).port = s.port ∧
    (s.initPrivate id).resp = s.resp ∧ (s.initPrivate id).draws = s.draws := by
  cases id <;> simp [State.initPrivate]

@[simp] theorem State.initStage_frame (s : State) (id : StageId) :
    (s.initStage id).cfg = s.cfg ∧ (s.initStage id).sys = s.sys ∧ (s.initStage id).ints = s.ints ∧
    (s.initStage id).floats = s.floats ∧ (s.initStage id).ctrl = s.ctrl ∧ (s.initStage id).events = s.events ∧
    (s.initStage id).jitTrace = s.jitTrace ∧ (s.initStage id).port = s.port ∧ (s.initStage id).resp = s.resp ∧
    (s.initStage id).draws = s.draws := by
  simp [State.initStage]

@[simp] theorem State.startStage_frame (s : State) (id : StageId) :
    (s.startStage id).cfg = s.cfg ∧ (s.startStage id).sys = s.sys ∧ (s.startStage id).ints = s.ints ∧
    (s.startStage id).floats = s.floats ∧ (s.startStage id).fetch = s.fetch ∧ (s.startStage id).ex = s.ex ∧
    (s.startStage id).wb = s.wb ∧ (s.startStage id).ctrl = s.ctrl ∧ (s.startStage id).jitTrace = s.jitTrace ∧
    (s.startStage id).port = s.port ∧ (s.startStage id).resp = s.resp ∧ (s.startStage id).draws = s.draws := by
  simp [State.startStage]

@[simp] theorem State.dropHeavy_frame (s : State) (id : StageId) :
    (s.dropHeavy id).cfg = s.cfg ∧ (s.dropHeavy id).sys = s.sys ∧ (s.dropHeavy id).ints = s.ints ∧
    (s.dropHeavy id).floats = s.floats ∧ (s.dropHeavy id).stages = s.stages ∧ (s.dropHeavy id).fetch = s.fetch ∧
    (s.dropHeavy id).wb = s.wb ∧ (s.dropHeavy id).ctrl = s.ctrl ∧ (s.dropHeavy id).events = s.events ∧
    (s.dropHeavy id).jitTrace = s.jitTrace ∧ (s.dropHeavy id).port = s.port ∧ (s.dropHeavy id).resp = s.resp ∧
    (s.dropHeavy id).draws = s.draws := by
  cases id <;> simp [State.dropHeavy]

@[simp] theorem State.shutdownStage_frame (s : State) (id : StageId) :
    (s.shutdownStage id).cfg = s.cfg ∧ (s.shutdownStage id).sys = s.sys ∧ (s.shutdownStage id).ints = s.ints ∧
    (s.shutdownStage id).floats = s.floats ∧ (s.shutdownStage id).fetch = s.fetch ∧ (s.shutdownStage id).wb = s.wb ∧
    (s.shutdownStage id).ctrl = s.ctrl ∧ (s.shutdownStage id).jitTrace = s.jitTrace ∧ (s.shutdownStage id).port = s.port ∧
    (s.shutdownStage id).resp = s.resp ∧ (s.shutdownStage id).draws = s.draws := by
  simp [State.shutdownStage]

@[simp] theorem State.submit_frame (s : State) (id : StageId) (r : InstrRecord) :
    ((s.submit id r).2).cfg = s.cfg ∧ ((s.submit id r).2).sys = s.sys ∧ ((s.submit id r).2).ints = s.ints ∧
    ((s.submit id r).2).floats = s.floats ∧ ((s.submit id r).2).fetch = s.fetch ∧ ((s.submit id r).2).ex = s.ex ∧
    ((s.submit id r).2).wb = s.wb ∧ ((s.submit id r).2).ctrl = s.ctrl ∧ ((s.submit id r).2).jitTrace = s.jitTrace ∧
    ((s.submit id r).2).port = s.port ∧ ((s.submit id r).2).resp = s.resp ∧ ((s.submit id r).2).draws = s.draws := by
  unfold State.submit
  split <;> simp

@[simp] theorem State.forward_frame (s : State) (id : StageId) (r : InstrRecord) :
    (s.forward id r).cfg = s.cfg ∧ (s.forward id r).sys = s.sys ∧ (s.forward id r).ints = s.ints ∧
    (s.forward id r).floats = s.floats ∧ (s.forward id r).fetch = s.fetch ∧ (s.forward id r).ex = s.ex ∧
    (s.forward id r).wb = s.wb ∧ (s.forward id r).ctrl = s.ctrl ∧ (s.forward id r).jitTrace = s.jitTrace ∧
    (s.forward id r).port = s.port ∧ (s.forward id r).resp = s.resp ∧ (s.forward id r).draws = s.draws := by
  unfold State.forward
  split <;> simp

@[simp] theorem State.releasePermit_frame (s : State) (id : StageId) :
    (s.releasePermit id).cfg = s.cfg ∧ (s.releasePermit id).sys = s.sys ∧ (s.releasePermit id).ints = s.ints ∧
    (s.releasePermit id).floats = s.floats ∧ (s.releasePermit id).fetch = s.fetch ∧ (s.releasePermit id).ex = s.ex ∧
    (s.releasePermit id).wb = s.wb ∧ (s.releasePermit id).ctrl = s.ctrl ∧ (s.releasePermit id).events = s.events ∧
    (s.releasePermit id).jitTrace = s.jitTrace ∧ (s.releasePermit id).port = s.port ∧ (s.releasePermit id).resp = s.resp ∧
    (s.releasePermit id).draws = s.draws := by
  simp [State.releasePermit]

@[simp] theorem State.countProcessed_frame (s : State) (id : StageId) (c : Nat) :
    (s.countProcessed id c).cfg = s.cfg ∧ (s.countProcessed id c).sys = s.sys ∧ (s.countProcessed id c).ints = s.ints ∧
    (s.countProcessed id c).floats = s.floats ∧ (s.countProcessed id c).fetch = s.fetch ∧ (s.countProcessed id c).ex = s.ex ∧
    (s.countProcessed id c).wb = s.wb ∧ (s.countProcessed id c).ctrl = s.ctrl ∧ (s.countProcessed id c).events = s.events ∧
    (s.countProcessed id c).jitTrace = s.jitTrace ∧ (s.countProcessed id c).port = s.port ∧ (s.countProcessed id c).resp = s.resp ∧
    (s.countProcessed id c).draws = s.draws := by
  simp [State.countProcessed]

@[simp] theorem State.timeout_frame (s : State) (id : StageId) :
    (s.timeout id).cfg = s.cfg ∧ (s.timeout id).sys = s.sys ∧ (s.timeout id).ints = s.ints ∧
    (s.timeout id).floats = s.floats ∧ (s.timeout id).fetch = s.fetch ∧ (s.timeout id).ex = s.ex ∧
    (s.timeout id).wb = s.wb ∧ (s.timeout id).ctrl = s.ctrl ∧ (s.timeout id).jitTrace = s.jitTrace ∧
    (s.timeout id).port = s.port ∧ (s.timeout id).resp = s.resp ∧ (s.timeout id).draws = s.draws := by
  unfold State.timeout
  split <;> simp

@[simp] theorem State.dropOnException_frame (s : State) (id : StageId) :
    (s.dropOnException id).cfg = s.cfg ∧ (s.dropOnException id).sys = s.sys ∧ (s.dropOnException id).ints = s.ints ∧
    (s.dropOnException id).floats = s.floats ∧ (s.dropOnException id).fetch = s.fetch ∧ (s.dropOnException id).ex = s.ex ∧
    (s.dropOnException id).wb = s.wb ∧ (s.dropOnException id).ctrl = s.ctrl ∧ (s.dropOnException id).jitTrace = s.jitTrace ∧
    (s.dropOnException id).port = s.port ∧ (s.dropOnException id).resp = s.resp ∧ (s.dropOnException id).draws = s.draws := by
  simp [State.dropOnException]

@[simp] theorem State.flushHere_frame (s : State) (id : StageId) :
    (s.flushHere id).cfg = s.cfg ∧ (s.flushHere id).sys = s.sys ∧ (s.flushHere id).ints = s.ints ∧
    (s.flushHere id).floats = s.floats ∧ (s.flushHere id).fetch = s.fetch ∧ (s.flushHere id).ex = s.ex ∧
    (s.flushHere id).wb = s.wb ∧ (s.flushHere id).events = s.events ∧ (s.flushHere id).jitTrace = s.jitTrace ∧
    (s.flushHere id).port = s.port ∧ (s.flushHere id).resp = s.resp ∧ (s.flushHere id).draws = s.draws := by
  simp [State.flushHere]

@[simp] theorem State.dequeue_frame (s : State) (id : StageId) :
    (s.dequeue id).cfg = s.cfg ∧ (s.dequeue id).sys = s.sys ∧ (s.dequeue id).ints = s.ints ∧
    (s.dequeue id).floats = s.floats ∧ (s.dequeue id).fetch = s.fetch ∧ (s.dequeue id).ex = s.ex ∧
    (s.dequeue id).wb = s.wb ∧ (s.dequeue id).ctrl = s.ctrl ∧ (s.dequeue id).events = s.events ∧
    (s.dequeue id).jitTrace = s.jitTrace ∧ (s.dequeue id).port = s.port ∧ (s.dequeue id).resp = s.resp ∧
    (s.dequeue id).draws = s.draws := by
  simp [State.dequeue]

@[simp] theorem State.resize_frame (s : State) (id : StageId) (n : Nat) :
    (s.resize id n).cfg = s.cfg ∧ (s.resize id n).sys = s.sys ∧ (s.resize id n).ints = s.ints ∧
    (s.resize id n).floats = s.floats ∧ (s.resize id n).fetch = s.fetch ∧ (s.resize id n).ex = s.ex ∧
    (s.resize id n).wb = s.wb ∧ (s.resize id n).ctrl = s.ctrl ∧ (s.resize id n).events = s.events ∧
    (s.resize id n).jitTrace = s.jitTrace ∧ (s.resize id n).port = s.port ∧ (s.resize id n).resp = s.resp := by
  unfold State.resize
  simp only
  split <;> simp

@[simp] theorem State.adjust_frame (s : State) (id : StageId) (n : Nat) :
    (s.adjust id n).cfg = s.cfg ∧ (s.adjust id n).sys = s.sys ∧ (s.adjust id n).ints = s.ints ∧
    (s.adjust id n).floats = s.floats ∧ (s.adjust id n).fetch = s.fetch ∧ (s.adjust id n).ex = s.ex ∧
    (s.adjust id n).wb = s.wb ∧ (s.adjust id n).ctrl = s.ctrl ∧ (s.adjust id n).events = s.events ∧
    (s.adjust id n).jitTrace = s.jitTrace ∧ (s.adjust id n).port = s.port ∧ (s.adjust id n).resp = s.resp := by
  unfold State.adjust
  split <;> simp

/-! ## Fetch -/

@[simp] theorem State.readWord_frame (s : State) (a : Word) :
    ((s.readWord a).2).cfg = s.cfg ∧ ((s.readWord a).2).ints = s.ints ∧ ((s.readWord a).2).floats = s.floats ∧
    ((s.readWord a).2).stages = s.stages ∧ ((s.readWord a).2).fetch = s.fetch ∧ ((s.readWord a).2).ex = s.ex ∧
    ((s.readWord a).2).wb = s.wb ∧ ((s.readWord a).2).ctrl = s.ctrl ∧ ((s.readWord a).2).events = s.events ∧
    ((s.readWord a).2).jitTrace = s.jitTrace ∧ ((s.readWord a).2).port = s.port ∧ ((s.readWord a).2).resp = s.resp := by
  unfold State.readWord
  repeat' split
  all_goals simp

@[simp] theorem State.fetchInstruction_frame (s : State) (pc : Word) :
    ((s.fetchInstruction pc).2).cfg = s.cfg ∧ ((s.fetchInstruction pc).2).ints = s.ints ∧ ((s.fetchInstruction pc).2).floats = s.floats ∧
    ((s.fetchInstruction pc).2).stages = s.stages ∧ ((s.fetchInstruction pc).2).ex = s.ex ∧ ((s.fetchInstruction pc).2).wb = s.wb ∧
    ((s.fetchInstruction pc).2).ctrl = s.ctrl ∧ ((s.fetchInstruction pc).2).events = s.events ∧ ((s.fetchInstruction pc).2).jitTrace = s.jitTrace ∧
    ((s.fetchInstruction pc).2).port = s.port ∧ ((s.fetchInstruction pc).2).resp = s.resp := by
  have h := s.readWord_frame pc
  unfold State.fetchInstruction
  split
  · simp
  · split <;> simp_all

@[simp] theorem State.prefetch_frame (s : State) (pc : Word) :
    (s.prefetch pc).cfg = s.cfg ∧ (s.prefetch pc).ints = s.ints ∧ (s.prefetch pc).floats = s.floats ∧
    (s.prefetch pc).stages = s.stages ∧ (s.prefetch pc).ex = s.ex ∧ (s.prefetch pc).wb = s.wb ∧
    (s.prefetch pc).ctrl = s.ctrl ∧ (s.prefetch pc).events = s.events ∧ (s.prefetch pc).jitTrace = s.jitTrace ∧
    (s.prefetch pc).port = s.port ∧ (s.prefetch pc).resp = s.resp := by
  have h := s.readWord_frame (nextLine s.cfg pc)
  unfold State.prefetch
  split
  · simp only
    split
    · simp
    · split <;> simp_all
  · simp

@[simp] theorem State.fetched_frame (s : State) (pc : Word) (w : IWord) :
    (s.fetched pc w).cfg = s.cfg ∧ (s.fetched pc w).ints = s.ints ∧ (s.fetched pc w).floats = s.floats ∧
    (s.fetched pc w).ex = s.ex ∧ (s.fetched pc w).wb = s.wb ∧ (s.fetched pc w).ctrl = s.ctrl ∧
    (s.fetched pc w).jitTrace = s.jitTrace ∧ (s.fetched pc w).port = s.port ∧ (s.fetched pc w).resp = s.resp := by
  simp [State.fetched]

@[simp] theorem State.fetchFlush_frame (s : State) :
    (s.fetchFlush).cfg = s.cfg ∧ (s.fetchFlush).sys = s.sys ∧ (s.fetchFlush).ints = s.ints ∧
    (s.fetchFlush).floats = s.floats ∧ (s.fetchFlush).ex = s.ex ∧ (s.fetchFlush).wb = s.wb ∧
    (s.fetchFlush).events = s.events ∧ (s.fetchFlush).jitTrace = s.jitTrace ∧ (s.fetchFlush).port = s.port ∧
    (s.fetchFlush).resp = s.resp ∧ (s.fetchFlush).draws = s.draws := by
  simp [State.fetchFlush]

@[simp] theorem State.fetchIteration_frame (s : State) :
    (s.fetchIteration).cfg = s.cfg ∧ (s.fetchIteration).ints = s.ints ∧ (s.fetchIteration).floats = s.floats ∧
    (s.fetchIteration).ex = s.ex ∧ (s.fetchIteration).wb = s.wb ∧ (s.fetchIteration).jitTrace = s.jitTrace ∧
    (s.fetchIteration).port = s.port ∧ (s.fetchIteration).resp = s.resp := by
  unfold State.fetchIteration
  split
  · simp
  · have h := ({ s with fetch := s.fetch.applyRedirect } : State).fetchInstruction_frame s.fetch.applyRedirect.nextPC
    simp only
    split <;> simp_all

/-! ## Execute -/

@[simp] theorem State.writeInt_frame (s : State) (r : RegNum) (v : Word) :
    (s.writeInt r v).cfg = s.cfg ∧ (s.writeInt r v).sys = s.sys ∧ (s.writeInt r v).floats = s.floats ∧
    (s.writeInt r v).stages = s.stages ∧ (s.writeInt r v).fetch = s.fetch ∧ (s.writeInt r v).ex = s.ex ∧
    (s.writeInt r v).wb = s.wb ∧ (s.writeInt r v).ctrl = s.ctrl ∧ (s.writeInt r v).events = s.events ∧
    (s.writeInt r v).jitTrace = s.jitTrace ∧ (s.writeInt r v).port = s.port ∧ (s.writeInt r v).resp = s.resp ∧
    (s.writeInt r v).draws = s.draws := by
  unfold State.writeInt
  split <;> simp

@[simp] theorem State.writeFloat_frame (s : State) (r : RegNum) (v : Word) :
    (s.writeFloat r v).cfg = s.cfg ∧ (s.writeFloat r v).sys = s.sys ∧ (s.writeFloat r v).ints = s.ints ∧
    (s.writeFloat r v).stages = s.stages ∧ (s.writeFloat r v).fetch = s.fetch ∧ (s.writeFloat r v).ex = s.ex ∧
    (s.writeFloat r v).wb = s.wb ∧ (s.writeFloat r v).ctrl = s.ctrl ∧ (s.writeFloat r v).events = s.events ∧
    (s.writeFloat r v).jitTrace = s.jitTrace ∧ (s.writeFloat r v).port = s.port ∧ (s.writeFloat r v).resp = s.resp ∧
    (s.writeFloat r v).draws = s.draws := by
  unfold State.writeFloat
  split <;> simp

/-- A bank read out gives what the RegisterFile's read gives, register by register (R244). -/
theorem State.intsRead_get (s : State) (k : RegNum) : s.intsRead[k.toNat]'(k.isLt) = s.readInt k := by
  simp only [State.intsRead, State.readInt, Vector.getElem_set]
  split <;> split <;> first | rfl | (exfalso; simp_all)

theorem State.floatsRead_get (s : State) (k : RegNum) : s.floatsRead[k.toNat]'(k.isLt) = s.readFloat k := by
  simp only [State.floatsRead, State.readFloat, Vector.getElem_set]
  split <;> split <;> first | rfl | (exfalso; simp_all)

@[simp] theorem State.dataRead_frame (s : State) (a : Word) (n : Nat) :
    ((s.dataRead a n).2).cfg = s.cfg ∧ ((s.dataRead a n).2).ints = s.ints ∧ ((s.dataRead a n).2).floats = s.floats ∧
    ((s.dataRead a n).2).stages = s.stages ∧ ((s.dataRead a n).2).fetch = s.fetch ∧ ((s.dataRead a n).2).ex = s.ex ∧
    ((s.dataRead a n).2).wb = s.wb ∧ ((s.dataRead a n).2).ctrl = s.ctrl ∧ ((s.dataRead a n).2).events = s.events ∧
    ((s.dataRead a n).2).jitTrace = s.jitTrace ∧ ((s.dataRead a n).2).port = s.port ∧ ((s.dataRead a n).2).resp = s.resp ∧
    ((s.dataRead a n).2).draws = s.draws := by
  unfold State.dataRead
  repeat' split
  all_goals simp

/-- What a unit learns of a data write: refused exactly where the write goes through the hierarchy and is not inside one
line, and then the write changes nothing (R133). -/
theorem State.writeAnswer_eq_none_iff (s : State) (a : Word) (n : Nat) :
    s.writeAnswer a n = none ↔ s.cfg.dataPath = .hierarchy ∧ s.cfg.legal a n = false := by
  unfold State.writeAnswer; split <;> simp_all

theorem State.dataWrite_refused (s : State) (a : Word) (bs : List Byte) (h : s.writeAnswer a bs.length = none) :
    s.dataWrite a bs = s := by
  obtain ⟨hp, hl⟩ := (s.writeAnswer_eq_none_iff a bs.length).1 h
  simp [State.dataWrite, hp, cacheWrite, hl]

@[simp] theorem State.dataWrite_frame (s : State) (a : Word) (bs : List Byte) :
    (s.dataWrite a bs).cfg = s.cfg ∧ (s.dataWrite a bs).ints = s.ints ∧ (s.dataWrite a bs).floats = s.floats ∧
    (s.dataWrite a bs).stages = s.stages ∧ (s.dataWrite a bs).fetch = s.fetch ∧ (s.dataWrite a bs).ex = s.ex ∧
    (s.dataWrite a bs).wb = s.wb ∧ (s.dataWrite a bs).ctrl = s.ctrl ∧ (s.dataWrite a bs).events = s.events ∧
    (s.dataWrite a bs).jitTrace = s.jitTrace ∧ (s.dataWrite a bs).port = s.port ∧ (s.dataWrite a bs).resp = s.resp ∧
    (s.dataWrite a bs).draws = s.draws := by
  unfold State.dataWrite
  repeat' split
  all_goals simp

@[simp] theorem State.execFault_frame (s : State) (r : InstrRecord) :
    (s.execFault r).cfg = s.cfg ∧ (s.execFault r).sys = s.sys ∧ (s.execFault r).ints = s.ints ∧
    (s.execFault r).floats = s.floats ∧ (s.execFault r).stages = s.stages ∧ (s.execFault r).fetch = s.fetch ∧
    (s.execFault r).wb = s.wb ∧ (s.execFault r).ctrl = s.ctrl ∧ (s.execFault r).jitTrace = s.jitTrace ∧
    (s.execFault r).port = s.port ∧ (s.execFault r).resp = s.resp ∧ (s.execFault r).draws = s.draws := by
  simp [State.execFault]

theorem unitLoop_frame (r : InstrRecord) (own : Bool) : ∀ (fuel : Nat) (reads : List (Option (List Byte))) (n : Nat) (s : State),
    (unitLoop r own fuel reads n s).2.cfg = s.cfg ∧ (unitLoop r own fuel reads n s).2.stages = s.stages ∧
    (unitLoop r own fuel reads n s).2.fetch = s.fetch ∧ (unitLoop r own fuel reads n s).2.ex = s.ex ∧
    (unitLoop r own fuel reads n s).2.wb = s.wb ∧ (unitLoop r own fuel reads n s).2.ctrl = s.ctrl ∧
    (unitLoop r own fuel reads n s).2.events = s.events ∧ (unitLoop r own fuel reads n s).2.jitTrace = s.jitTrace ∧
    (unitLoop r own fuel reads n s).2.port = s.port ∧ (unitLoop r own fuel reads n s).2.resp = s.resp ∧
    (unitLoop r own fuel reads n s).2.draws = s.draws
  | 0, _, _, s => by simp [unitLoop]
  | fuel + 1, reads, n, s => by
    unfold unitLoop
    repeat' split
    all_goals first
      | simp; done
      | (refine ⟨?_, ?_, ?_, ?_, ?_, ?_, ?_, ?_, ?_, ?_, ?_⟩ <;> simp [unitLoop_frame r own fuel])

/-- Putting a load's destination back touches one bank and nothing else. -/
@[simp] theorem State.keepDest_frame (old : State) (r : InstrRecord) (s : State) :
    (old.keepDest r s).cfg = s.cfg ∧ (old.keepDest r s).sys = s.sys ∧ (old.keepDest r s).stages = s.stages ∧
    (old.keepDest r s).fetch = s.fetch ∧ (old.keepDest r s).ex = s.ex ∧ (old.keepDest r s).wb = s.wb ∧
    (old.keepDest r s).ctrl = s.ctrl ∧ (old.keepDest r s).events = s.events ∧
    (old.keepDest r s).jitTrace = s.jitTrace ∧ (old.keepDest r s).port = s.port ∧
    (old.keepDest r s).resp = s.resp ∧ (old.keepDest r s).draws = s.draws := by
  unfold State.keepDest
  split <;> simp

/-- A load's destination, put back, holds what it held (R242 (c)). -/
theorem State.keepDest_dest (old : State) (r : InstrRecord) (s : State) :
    if old.cfg.floatDestOf r.opcode = true then
      (old.keepDest r s).floats[r.ra.toNat]'(r.ra.isLt) = old.floats[r.ra.toNat]'(r.ra.isLt) ∧
        (old.keepDest r s).ints = s.ints
    else
      (old.keepDest r s).ints[r.ra.toNat]'(r.ra.isLt) = old.ints[r.ra.toNat]'(r.ra.isLt) ∧
        (old.keepDest r s).floats = s.floats := by
  unfold State.keepDest
  split <;> simp

@[simp] theorem loadEnd_frame (r : InstrRecord) (b : Option (List Byte)) (old : State) (x : UnitOutcome × State) :
    (loadEnd r b old x).2.cfg = x.2.cfg ∧ (loadEnd r b old x).2.sys = x.2.sys ∧
    (loadEnd r b old x).2.stages = x.2.stages ∧
    (loadEnd r b old x).2.fetch = x.2.fetch ∧ (loadEnd r b old x).2.ex = x.2.ex ∧ (loadEnd r b old x).2.wb = x.2.wb ∧
    (loadEnd r b old x).2.ctrl = x.2.ctrl ∧ (loadEnd r b old x).2.events = x.2.events ∧
    (loadEnd r b old x).2.jitTrace = x.2.jitTrace ∧ (loadEnd r b old x).2.port = x.2.port ∧
    (loadEnd r b old x).2.resp = x.2.resp ∧ (loadEnd r b old x).2.draws = x.2.draws := by
  unfold loadEnd
  split <;> simp

theorem collaborate_frame (s : State) (r : InstrRecord) :
    (collaborate r s).2.cfg = s.cfg ∧ (collaborate r s).2.stages = s.stages ∧
    (collaborate r s).2.fetch = s.fetch ∧ (collaborate r s).2.ex = s.ex ∧
    (collaborate r s).2.wb = s.wb ∧ (collaborate r s).2.ctrl = s.ctrl ∧
    (collaborate r s).2.events = s.events ∧ (collaborate r s).2.jitTrace = s.jitTrace ∧
    (collaborate r s).2.port = s.port ∧ (collaborate r s).2.resp = s.resp ∧
    (collaborate r s).2.draws = s.draws := by
  unfold collaborate faultFreely
  simp only
  repeat' split
  all_goals simp [unitLoop_frame]

/-- The execution unit changes registers, caches and memory, and nothing else of the machine (R242). -/
@[simp] theorem execUnit_frame (s : State) (r : InstrRecord) :
    (execUnit r s).2.cfg = s.cfg ∧ (execUnit r s).2.stages = s.stages ∧
    (execUnit r s).2.fetch = s.fetch ∧ (execUnit r s).2.ex = s.ex ∧
    (execUnit r s).2.wb = s.wb ∧ (execUnit r s).2.ctrl = s.ctrl ∧
    (execUnit r s).2.events = s.events ∧ (execUnit r s).2.jitTrace = s.jitTrace ∧
    (execUnit r s).2.port = s.port ∧ (execUnit r s).2.resp = s.resp ∧
    (execUnit r s).2.draws = s.draws := by
  have h := s.dataRead_frame (s.effAddr r) 8
  unfold execUnit xu1 xu1Operate xu1Load xu1Store
  simp only
  repeat' split
  all_goals simp_all [collaborate_frame]

/-- The no-op word: done, with nothing changed (R245). -/
theorem execUnit_nop (s : State) (r : InstrRecord) (h : r.raw = nopCode) :
    execUnit r s = (.done (nopDone r), s) := by
  simp [execUnit, h]

theorem executeInline_frame (s : State) (r : InstrRecord) :
    (executeInline r s).2.cfg = s.cfg ∧ (executeInline r s).2.stages = s.stages ∧
    (executeInline r s).2.fetch = s.fetch ∧ (executeInline r s).2.wb = s.wb ∧
    (executeInline r s).2.ctrl = s.ctrl ∧ (executeInline r s).2.jitTrace = s.jitTrace ∧
    (executeInline r s).2.port = s.port ∧ (executeInline r s).2.resp = s.resp ∧
    (executeInline r s).2.draws = s.draws := by
  have h := execUnit_frame s r
  unfold executeInline
  split <;> simp_all

@[simp] theorem State.noteMode_frame (s : State) (o : Option ExecMode) (m : ExecMode) (pc : Word) :
    (s.noteMode o m pc).cfg = s.cfg ∧ (s.noteMode o m pc).sys = s.sys ∧ (s.noteMode o m pc).ints = s.ints ∧
    (s.noteMode o m pc).floats = s.floats ∧ (s.noteMode o m pc).stages = s.stages ∧ (s.noteMode o m pc).fetch = s.fetch ∧
    (s.noteMode o m pc).wb = s.wb ∧ (s.noteMode o m pc).ctrl = s.ctrl ∧ (s.noteMode o m pc).jitTrace = s.jitTrace ∧
    (s.noteMode o m pc).port = s.port ∧ (s.noteMode o m pc).resp = s.resp ∧ (s.noteMode o m pc).draws = s.draws := by
  unfold State.noteMode
  repeat' split
  all_goals simp

@[simp] theorem State.requestCompile_frame (s : State) (e : TierEntry) (pc : Word) :
    ((s.requestCompile e pc).2).cfg = s.cfg ∧ ((s.requestCompile e pc).2).sys = s.sys ∧ ((s.requestCompile e pc).2).ints = s.ints ∧
    ((s.requestCompile e pc).2).floats = s.floats ∧ ((s.requestCompile e pc).2).stages = s.stages ∧ ((s.requestCompile e pc).2).fetch = s.fetch ∧
    ((s.requestCompile e pc).2).wb = s.wb ∧ ((s.requestCompile e pc).2).ctrl = s.ctrl ∧ ((s.requestCompile e pc).2).jitTrace = s.jitTrace ∧
    ((s.requestCompile e pc).2).port = s.port ∧ ((s.requestCompile e pc).2).resp = s.resp ∧ ((s.requestCompile e pc).2).draws = s.draws := by
  unfold State.requestCompile
  split <;> simp

@[simp] theorem State.modeFor_frame (s : State) (e : TierEntry) (pc : Word) :
    ((s.modeFor e pc).2.2).cfg = s.cfg ∧ ((s.modeFor e pc).2.2).sys = s.sys ∧ ((s.modeFor e pc).2.2).ints = s.ints ∧
    ((s.modeFor e pc).2.2).floats = s.floats ∧ ((s.modeFor e pc).2.2).stages = s.stages ∧ ((s.modeFor e pc).2.2).fetch = s.fetch ∧
    ((s.modeFor e pc).2.2).wb = s.wb ∧ ((s.modeFor e pc).2.2).ctrl = s.ctrl ∧ ((s.modeFor e pc).2.2).jitTrace = s.jitTrace ∧
    ((s.modeFor e pc).2.2).port = s.port ∧ ((s.modeFor e pc).2.2).resp = s.resp := by
  unfold State.modeFor
  repeat' split
  all_goals simp

@[simp] theorem State.tierStep_frame (s : State) (r : InstrRecord) :
    ((s.tierStep r).2).cfg = s.cfg ∧ ((s.tierStep r).2).sys = s.sys ∧ ((s.tierStep r).2).ints = s.ints ∧
    ((s.tierStep r).2).floats = s.floats ∧ ((s.tierStep r).2).stages = s.stages ∧ ((s.tierStep r).2).fetch = s.fetch ∧
    ((s.tierStep r).2).wb = s.wb ∧ ((s.tierStep r).2).ctrl = s.ctrl ∧ ((s.tierStep r).2).jitTrace = s.jitTrace ∧
    ((s.tierStep r).2).port = s.port ∧ ((s.tierStep r).2).resp = s.resp := by
  simp [State.tierStep]

@[simp] theorem State.tryCompiled_frame (s : State) (r : InstrRecord) :
    ((s.tryCompiled r).2).cfg = s.cfg ∧ ((s.tryCompiled r).2).stages = s.stages ∧ ((s.tryCompiled r).2).fetch = s.fetch ∧
    ((s.tryCompiled r).2).ex = s.ex ∧ ((s.tryCompiled r).2).wb = s.wb ∧ ((s.tryCompiled r).2).ctrl = s.ctrl ∧
    ((s.tryCompiled r).2).events = s.events ∧ ((s.tryCompiled r).2).jitTrace = s.jitTrace ∧ ((s.tryCompiled r).2).port = s.port ∧
    ((s.tryCompiled r).2).resp = s.resp := by
  have h := execUnit_frame s.draw.2 r
  unfold State.tryCompiled
  split
  · split <;> simp_all
  · simp

theorem interpretE_frame (s : State) (r : InstrRecord) :
    (interpretE r s).2.cfg = s.cfg ∧ (interpretE r s).2.stages = s.stages ∧
    (interpretE r s).2.fetch = s.fetch ∧ (interpretE r s).2.wb = s.wb ∧
    (interpretE r s).2.ctrl = s.ctrl ∧ (interpretE r s).2.jitTrace = s.jitTrace ∧
    (interpretE r s).2.port = s.port ∧ (interpretE r s).2.resp = s.resp ∧
    (interpretE r s).2.draws = s.draws := by
  unfold interpretE
  simp only
  split
  · simp
  · simp [executeInline_frame]

/-- Execute's `process` touches registers, caches and memory, its own private state, the events, the trace and the
draws, and nothing else (R240). -/
theorem processE_frame (s : State) (r : InstrRecord) :
    (processE r s).2.cfg = s.cfg ∧ (processE r s).2.stages = s.stages ∧
    (processE r s).2.fetch = s.fetch ∧ (processE r s).2.wb = s.wb ∧
    (processE r s).2.ctrl = s.ctrl ∧ (processE r s).2.port = s.port ∧ (processE r s).2.resp = s.resp := by
  have h1 := s.tierStep_frame r
  unfold processE hybridE
  split
  · split
    · simp [interpretE_frame]
    · split
      · rename_i s' he
        have h2 := s'.tryCompiled_frame r
        split <;> simp_all [interpretE_frame]
      · simp_all [interpretE_frame]
      · simp_all [interpretE_frame]
  · simp

/-! ## Writeback -/

@[simp] theorem State.writeLoad_frame (s : State) (r : InstrRecord) :
    (s.writeLoad r).cfg = s.cfg ∧ (s.writeLoad r).sys = s.sys ∧ (s.writeLoad r).stages = s.stages ∧
    (s.writeLoad r).fetch = s.fetch ∧ (s.writeLoad r).ex = s.ex ∧ (s.writeLoad r).wb = s.wb ∧
    (s.writeLoad r).ctrl = s.ctrl ∧ (s.writeLoad r).events = s.events ∧ (s.writeLoad r).jitTrace = s.jitTrace ∧
    (s.writeLoad r).port = s.port ∧ (s.writeLoad r).resp = s.resp ∧ (s.writeLoad r).draws = s.draws := by
  unfold State.writeLoad
  split <;> simp

@[simp] theorem State.commitFailure_frame (s : State) :
    (s.commitFailure).cfg = s.cfg ∧ (s.commitFailure).sys = s.sys ∧ (s.commitFailure).ints = s.ints ∧
    (s.commitFailure).floats = s.floats ∧ (s.commitFailure).fetch = s.fetch ∧ (s.commitFailure).ex = s.ex ∧
    (s.commitFailure).ctrl = s.ctrl ∧ (s.commitFailure).jitTrace = s.jitTrace ∧ (s.commitFailure).port = s.port ∧
    (s.commitFailure).resp = s.resp ∧ (s.commitFailure).draws = s.draws := by
  simp [State.commitFailure]

@[simp] theorem State.branchRedirect_frame (s : State) (t : Word) :
    (s.branchRedirect t).cfg = s.cfg ∧ (s.branchRedirect t).sys = s.sys ∧ (s.branchRedirect t).ints = s.ints ∧
    (s.branchRedirect t).floats = s.floats ∧ (s.branchRedirect t).stages = s.stages ∧ (s.branchRedirect t).ex = s.ex ∧
    (s.branchRedirect t).wb = s.wb ∧ (s.branchRedirect t).ctrl = s.ctrl ∧ (s.branchRedirect t).events = s.events ∧
    (s.branchRedirect t).jitTrace = s.jitTrace ∧ (s.branchRedirect t).port = s.port ∧ (s.branchRedirect t).resp = s.resp ∧
    (s.branchRedirect t).draws = s.draws := by
  unfold State.branchRedirect State.redirect
  split <;> simp

@[simp] theorem State.resolveBranch_frame (s : State) (r : InstrRecord) :
    (s.resolveBranch r).cfg = s.cfg ∧ (s.resolveBranch r).sys = s.sys ∧ (s.resolveBranch r).ints = s.ints ∧
    (s.resolveBranch r).floats = s.floats ∧ (s.resolveBranch r).ex = s.ex ∧ (s.resolveBranch r).jitTrace = s.jitTrace ∧
    (s.resolveBranch r).port = s.port ∧ (s.resolveBranch r).resp = s.resp ∧ (s.resolveBranch r).draws = s.draws := by
  unfold State.resolveBranch
  split <;> simp

@[simp] theorem State.commit_frame (s : State) (r : InstrRecord) :
    (s.commit r).cfg = s.cfg ∧ (s.commit r).sys = s.sys ∧ (s.commit r).ex = s.ex ∧
    (s.commit r).jitTrace = s.jitTrace ∧ (s.commit r).port = s.port ∧ (s.commit r).resp = s.resp ∧
    (s.commit r).draws = s.draws := by
  unfold State.commit
  repeat' split
  all_goals simp

@[simp] theorem State.writeback_frame (s : State) (r : InstrRecord) :
    (s.writeback r).cfg = s.cfg ∧ (s.writeback r).sys = s.sys ∧ (s.writeback r).ex = s.ex ∧
    (s.writeback r).jitTrace = s.jitTrace ∧ (s.writeback r).port = s.port ∧ (s.writeback r).resp = s.resp ∧
    (s.writeback r).draws = s.draws := by
  unfold State.writeback
  repeat' split
  all_goals simp

/-! ## Controller -/

@[simp] theorem State.bringUp_frame (s : State) (id : StageId) :
    (s.bringUp id).cfg = s.cfg ∧ (s.bringUp id).sys = s.sys ∧ (s.bringUp id).ints = s.ints ∧
    (s.bringUp id).floats = s.floats ∧ (s.bringUp id).ctrl = s.ctrl ∧ (s.bringUp id).jitTrace = s.jitTrace ∧
    (s.bringUp id).port = s.port ∧ (s.bringUp id).resp = s.resp ∧ (s.bringUp id).draws = s.draws := by
  unfold State.bringUp
  split <;> simp

@[simp] theorem State.bringDown_frame (s : State) (id : StageId) :
    (s.bringDown id).cfg = s.cfg ∧ (s.bringDown id).sys = s.sys ∧ (s.bringDown id).ints = s.ints ∧
    (s.bringDown id).floats = s.floats ∧ (s.bringDown id).fetch = s.fetch ∧ (s.bringDown id).wb = s.wb ∧
    (s.bringDown id).ctrl = s.ctrl ∧ (s.bringDown id).jitTrace = s.jitTrace ∧ (s.bringDown id).port = s.port ∧
    (s.bringDown id).resp = s.resp ∧ (s.bringDown id).draws = s.draws := by
  unfold State.bringDown
  split <;> simp

@[simp] theorem State.startAll_frame (s : State) :
    (s.startAll).cfg = s.cfg ∧ (s.startAll).sys = s.sys ∧ (s.startAll).ints = s.ints ∧
    (s.startAll).floats = s.floats ∧ (s.startAll).jitTrace = s.jitTrace ∧ (s.startAll).port = s.port ∧
    (s.startAll).resp = s.resp ∧ (s.startAll).draws = s.draws := by
  simp [State.startAll, StageId.fromLast]

@[simp] theorem State.stopAll_frame (s : State) :
    (s.stopAll).cfg = s.cfg ∧ (s.stopAll).sys = s.sys ∧ (s.stopAll).ints = s.ints ∧
    (s.stopAll).floats = s.floats ∧ (s.stopAll).fetch = s.fetch ∧ (s.stopAll).wb = s.wb ∧
    (s.stopAll).jitTrace = s.jitTrace ∧ (s.stopAll).port = s.port ∧ (s.stopAll).resp = s.resp ∧
    (s.stopAll).draws = s.draws := by
  simp [State.stopAll, StageId.all]

@[simp] theorem State.sample_frame (s : State) (id : StageId) :
    (s.sample id).cfg = s.cfg ∧ (s.sample id).sys = s.sys ∧ (s.sample id).ints = s.ints ∧
    (s.sample id).floats = s.floats ∧ (s.sample id).stages = s.stages ∧ (s.sample id).fetch = s.fetch ∧
    (s.sample id).ex = s.ex ∧ (s.sample id).wb = s.wb ∧ (s.sample id).events = s.events ∧
    (s.sample id).jitTrace = s.jitTrace ∧ (s.sample id).port = s.port ∧ (s.sample id).resp = s.resp ∧
    (s.sample id).draws = s.draws := by
  simp [State.sample]

@[simp] theorem State.tune_frame (s : State) (id : StageId) :
    (s.tune id).cfg = s.cfg ∧ (s.tune id).sys = s.sys ∧ (s.tune id).ints = s.ints ∧
    (s.tune id).floats = s.floats ∧ (s.tune id).fetch = s.fetch ∧ (s.tune id).ex = s.ex ∧
    (s.tune id).wb = s.wb ∧ (s.tune id).ctrl = s.ctrl ∧ (s.tune id).jitTrace = s.jitTrace ∧
    (s.tune id).port = s.port ∧ (s.tune id).resp = s.resp := by
  unfold State.tune
  simp only
  repeat' split
  all_goals simp

@[simp] theorem State.timerTick_frame (s : State) :
    (s.timerTick).cfg = s.cfg ∧ (s.timerTick).sys = s.sys ∧ (s.timerTick).ints = s.ints ∧
    (s.timerTick).floats = s.floats ∧ (s.timerTick).fetch = s.fetch ∧ (s.timerTick).ex = s.ex ∧
    (s.timerTick).wb = s.wb ∧ (s.timerTick).jitTrace = s.jitTrace ∧ (s.timerTick).port = s.port ∧
    (s.timerTick).resp = s.resp := by
  unfold State.timerTick
  simp only
  split <;> simp [StageId.all]

@[simp] theorem State.resetBlock_frame (s : State) :
    (s.resetBlock).cfg = s.cfg ∧ (s.resetBlock).ints = s.ints ∧ (s.resetBlock).floats = s.floats ∧
    (s.resetBlock).jitTrace = s.jitTrace ∧ (s.resetBlock).port = s.port ∧ (s.resetBlock).resp = s.resp ∧
    (s.resetBlock).draws = s.draws := by
  simp [State.resetBlock]

end Sys2Proof.Machine
end

