-- ==== Sys2Proof/Laws/Cases.lean ====
section
/-! SUPPORT. What each shared operation does, case by case: the lemmas a proof cites instead of unfolding the operation. -/

namespace Sys2Proof.Machine

/-! ## Draws and registers -/

theorem Draws.next_given (f : Nat → Nat) (x : Nat) (xs : List Nat) (n : Nat) :
    Draws.next f ⟨x :: xs, n⟩ = (x, ⟨xs, n + 1⟩) := rfl

theorem Draws.next_open (f : Nat → Nat) (n : Nat) : Draws.next f ⟨[], n⟩ = (f n, ⟨[], n + 1⟩) := rfl

/-- Register 31 of the integer bank reads zero (R244). -/
@[simp] theorem State.readInt_31 (s : State) : s.readInt 31 = 0 := by simp [State.readInt]

/-- Register 31 of the float bank reads zero (R244). -/
@[simp] theorem State.readFloat_31 (s : State) : s.readFloat 31 = 0 := by simp [State.readFloat]

/-- A write to integer register 31 does nothing (R244). -/
@[simp] theorem State.writeInt_31 (s : State) (v : Word) : s.writeInt 31 v = s := by simp [State.writeInt]

/-- A write to float register 31 does nothing (R244). -/
@[simp] theorem State.writeFloat_31 (s : State) (v : Word) : s.writeFloat 31 v = s := by simp [State.writeFloat]

/-- A read after a write of an integer register: the value written, unless the register is 31. -/
theorem State.readInt_writeInt (s : State) (r q : RegNum) (v : Word) :
    (s.writeInt r v).readInt q = if q = r ∧ r ≠ 31 then v else s.readInt q := by
  unfold State.writeInt State.readInt
  by_cases hr : r = 31#5
  · simp [hr]
  · by_cases hq : q = 31#5
    · have : ¬ q = r := fun h => hr (h ▸ hq)
      simp [hq, hr]
      intro h; exact absurd h.symm hr
    · by_cases hqr : q = r
      · subst hqr; simp [hr]
      · have : r.toNat ≠ q.toNat := fun h => hqr (BitVec.eq_of_toNat_eq h.symm)
        simp [hr, hq, hqr, Vector.getElem_set_ne, this]

/-- A read after a write of a float register: the value written, unless the register is 31. -/
theorem State.readFloat_writeFloat (s : State) (r q : RegNum) (v : Word) :
    (s.writeFloat r v).readFloat q = if q = r ∧ r ≠ 31 then v else s.readFloat q := by
  unfold State.writeFloat State.readFloat
  by_cases hr : r = 31#5
  · simp [hr]
  · by_cases hq : q = 31#5
    · simp [hq, hr]
      intro h; exact absurd h.symm hr
    · by_cases hqr : q = r
      · subst hqr; simp [hr]
      · have : r.toNat ≠ q.toNat := fun h => hqr (BitVec.eq_of_toNat_eq h.symm)
        simp [hr, hq, hqr, Vector.getElem_set_ne, this]

/-! ## Admission and the worker -/

theorem State.submit_accepted (s : State) (id : StageId) (r : InstrRecord) (h : s.admits id = true) :
    s.submit id r = (true, s.setStage id ((s.stage id).accept r)) := by simp [State.submit, h]

theorem State.submit_rejected (s : State) (id : StageId) (r : InstrRecord) (h : s.admits id = false) :
    s.submit id r = (false, (s.setStage id (s.stage id).reject).emit (.backpressure id)) := by
  simp [State.submit, h]

/-- A stage admits exactly where it is Running with a free permit and room in its queue (R173). -/
theorem State.admits_iff (s : State) (id : StageId) : s.admits id = true ↔
    (s.stage id).life = .running ∧ (s.stage id).freePermits ≠ 0 ∧
      (s.stage id).queue.length ≠ s.cfg.queueCap.get id := by
  simp [State.admits, and_assoc]

/-- A stage that takes an instruction, or drops it, does so by its own record and the configuration alone. -/
theorem State.receiving_congr {s t : State} {id : StageId} (r : InstrRecord) (hs : t.stages.get id = s.stages.get id)
    (hc : t.cfg = s.cfg) : t.receiving id r = s.receiving id r := by
  simp only [State.receiving, State.accepts, hs, hc]

theorem State.dropEvents_congr {s t : State} {id : StageId} (hs : t.stages.get id = s.stages.get id)
    (hc : t.cfg = s.cfg) : t.dropEvents id = s.dropEvents id := by
  simp only [State.dropEvents, State.accepts, hs, hc]

/-- All a forward does: the stage downstream takes the instruction or drops it (R173, R178). -/
theorem State.forward_eq (s : State) {id next : StageId} (r : InstrRecord) (h : downstream id = some next) :
    s.forward id r =
      { s with stages := s.stages.set next (s.receiving next r), events := s.events ++ s.dropEvents next } := by
  have ha : s.admits next = true ↔ s.accepts next := s.admits_iff next
  simp only [State.forward, h, State.submit, State.receiving, State.dropEvents, ha]
  split
  · simp [State.setStage, State.stage, Stage.accept]
  · rfl

theorem State.iterate_flush (s : State) (id : StageId) (p : Process) (h : (s.stage id).flushFlag = true) :
    s.iterate id p = s.flushHere id := by simp [State.iterate, h]

theorem State.iterate_empty (s : State) (id : StageId) (p : Process) (h : (s.stage id).flushFlag = false)
    (hq : (s.stage id).queue = []) : s.iterate id p = s.timeout id := by simp [State.iterate, h, hq]

theorem State.iterate_work (s : State) (id : StageId) (p : Process) {r : InstrRecord} {rest : List InstrRecord}
    (h : (s.stage id).flushFlag = false) (hq : (s.stage id).queue = r :: rest) :
    s.iterate id p = s.work id p r := by simp [State.iterate, h, hq]

theorem State.work_output (s : State) (id : StageId) (p : Process) (r r' : InstrRecord) (s' : State)
    (h : p r (s.dequeue id).draw.2 = (.output r', s')) :
    s.work id p r = ((s'.countProcessed id (s.dequeue id).draw.1).forward id r').releasePermit id := by
  simp [State.work, h]

theorem State.work_noOutput (s : State) (id : StageId) (p : Process) (r : InstrRecord) (s' : State)
    (h : p r (s.dequeue id).draw.2 = (.noOutput, s')) :
    s.work id p r = (s'.countProcessed id (s.dequeue id).draw.1).releasePermit id := by
  simp [State.work, h]

theorem State.resize_grow (s : State) (id : StageId) (n : Nat) (h : (s.stage id).maxInFlight ≤ n) :
    s.resize id n = s.setStage id ((s.stage id).grow n) := by simp [State.resize, h]

theorem State.resize_shrink (s : State) (id : StageId) (n : Nat) (h : ¬ (s.stage id).maxInFlight ≤ n) :
    s.resize id n =
      s.draw.2.setStage id ((s.stage id).shrink (s.draw.1 % ((s.stage id).shrinkMax n + 1))) := by
  simp [State.resize, h]

/-! ## Flush -/

theorem State.beginFlush_none (s : State) (h : s.runningCount = 0) :
    s.beginFlush = { s with ctrl := { s.ctrl with pstate := .running, recovering := false } } := by
  simp [State.beginFlush, h]

theorem State.beginFlush_some (s : State) (h : s.runningCount ≠ 0) :
    s.beginFlush = { s with
      stages := ⟨raiseFlush s.stages.f, raiseFlush s.stages.d, raiseFlush s.stages.e, raiseFlush s.stages.w⟩
      ctrl := { s.ctrl with pstate := .flushing, pendingFlush := s.runningCount } } := by
  simp [State.beginFlush, h]

/-- At most four stages run. -/
theorem State.runningCount_le (s : State) : s.runningCount ≤ 4 :=
  le_trans (List.length_filter_le _ _) (by simp [StageId.all])

theorem CtrlState.flushAck_ignored (k : CtrlState) (h : ¬ (k.pstate = .flushing ∧ 0 < k.pendingFlush)) :
    k.flushAck = k := by simp [CtrlState.flushAck, h]

theorem CtrlState.flushAck_last (k : CtrlState) (h : k.pstate = .flushing) (h1 : k.pendingFlush = 1) :
    k.flushAck = { k with pendingFlush := 0, pstate := .running, recovering := false } := by
  simp [CtrlState.flushAck, CtrlState.flushDone, h, h1]

theorem CtrlState.flushAck_more (k : CtrlState) (h : k.pstate = .flushing) (h1 : 1 < k.pendingFlush) :
    k.flushAck = { k with pendingFlush := k.pendingFlush - 1 } := by
  have h2 : 0 < k.pendingFlush := by omega
  have h3 : ¬ k.pendingFlush - 1 = 0 := by omega
  simp [CtrlState.flushAck, h, h2, h3]

/-! ## Fetch -/

theorem State.fetchInstruction_hit (s : State) (pc : Word) (w : IWord)
    (h : fcLookup s.cfg s.fetch.fc pc (fcSlot s.cfg pc) = some w) :
    s.fetchInstruction pc = (some w, { s with fetch := { s.fetch with fcHits := s.fetch.fcHits + 1 } }) := by
  simp [State.fetchInstruction, h]

/-! ## Execute and Writeback -/

/-- `Complete` gives the record the statements speak of (R242, R243). -/
theorem complete_eq (r : InstrRecord) (res : ExecResult) : complete r res = completedWith r res := rfl

@[simp] theorem complete_executed (r : InstrRecord) (res : ExecResult) : (complete r res).executed = true := rfl

@[simp] theorem unmarked_executed (r : InstrRecord) : (unmarked r).executed = false := rfl

/-- A record a fault has unmarked fails the commit gate (R249, R266). -/
@[simp] theorem unmarked_committable (r : InstrRecord) : committable (unmarked r) = false := by
  simp [committable, unmarked]

theorem faultFreely_fst (r : InstrRecord) (s : State) : (faultFreely r s).1 = .fault := rfl

/-- A store of the collaborator's that completes has made its one access first (R242 (b)). -/
theorem collaborate_done_store (r : InstrRecord) (s t : State) (res : ExecResult) (hl : r.isLoad = false)
    (hs : r.isStore = true) (h : collaborate r s = (.done res, t)) :
    (.done res, t) = unitLoop r false (Config.unitActionBound r)
      [s.writeAnswer (s.effAddr r) r.accessSize.bytes] 1 (s.dataWrite (s.effAddr r)
        (fitBytes r.accessSize.bytes (Config.unitStoreBytes (s.unitView r [] 0)))) := by
  unfold collaborate faultFreely at h
  by_cases hf : Config.unitFaults (s.unitView r [] 0) = true <;> simp_all

theorem executeInline_done (r : InstrRecord) (s s' : State) (res : ExecResult) (h : execUnit r s = (.done res, s')) :
    executeInline r s = (complete r res, s') := by simp [executeInline, h]

theorem executeInline_fault (r : InstrRecord) (s s' : State) (h : execUnit r s = (.fault, s')) :
    executeInline r s = (unmarked r, s'.execFault r) := by simp [executeInline, h]

theorem tierGet_tierSet (pc q : Nat) (e : TierEntry) : ∀ t : List (Nat × TierEntry),
    t.Pairwise (fun x y => x.1 < y.1) → tierGet (tierSet t pc e) q = if q = pc then e else tierGet t q
  | [], _ => by simp [tierSet, tierGet]
  | (k, v) :: t, h => by
    unfold tierSet
    split
    · simp [tierGet]
    · split
      · rename_i hk
        subst hk
        simp only [tierGet]
        split <;> simp_all
      · rename_i h1 h2
        simp only [tierGet, tierGet_tierSet pc q e t (List.Pairwise.of_cons h)]
        by_cases hq : q = k
        · subst hq
          simp [Ne.symm h2]
        · simp [hq]

theorem State.writeback_failure (s : State) (r : InstrRecord) (h : committable r = false) :
    s.writeback r = s.commitFailure := by simp [State.writeback, h]

theorem State.writeback_exception (s : State) (r : InstrRecord) (h : committable r = true)
    (hx : r.hasException = true) : s.writeback r = s.raiseException r := by simp [State.writeback, h, hx]

theorem State.writeback_commit (s : State) (r : InstrRecord) (h : committable r = true)
    (hx : r.hasException = false) : s.writeback r = s.commit r := by simp [State.writeback, h, hx]

/-! ## A legal configuration -/

/-- What a legal configuration keeps (R344). -/
theorem Config.ok_iff (c : Config) : c.ok = true ↔
    isPow2 c.lineSize = true ∧ 8 ≤ c.lineSize ∧ (∀ l, c.levelOk l = true) ∧ (∀ id, c.stageOk id = true) ∧
    1 ≤ c.fcLines ∧ 4 ≤ c.fcLineSize ∧ c.fcLineSize % 4 = 0 ∧ c.prefetchWindow ≤ c.fcLineSize ∧
    (c.resetPC.extractLsb' 0 2 == 0) = true ∧ 1 ≤ c.profilingThreshold ∧ c.profilingThreshold ≤ c.compilationThreshold ∧
    1 ≤ c.heavyPoolSize ∧ 1 ≤ c.excLogCap ∧ 1 ≤ c.excLogMaxAge ∧ 1 ≤ c.growDen ∧ c.growDen < c.growNum ∧
    0 < c.shrinkNum ∧ c.shrinkNum < c.shrinkDen ∧ 1 ≤ c.limitFloor ∧ c.limitFloor ≤ c.limitCap ∧
    1 ≤ c.rollingWindow ∧ 1 ≤ c.excWindow ∧ c.costOk = true ∧ c.nopOk = true := by
  have hl : Level.all.all c.levelOk = true ↔ ∀ l, c.levelOk l = true := by
    refine ⟨fun h l => ?_, fun h => by simp [h]⟩
    exact List.all_eq_true.mp h l (by cases l <;> decide)
  have hs : StageId.all.all c.stageOk = true ↔ ∀ id, c.stageOk id = true := by
    refine ⟨fun h id => ?_, fun h => by simp [h]⟩
    exact List.all_eq_true.mp h id (by cases id <;> decide)
  rw [← hl, ← hs]
  simp [Config.ok, Config.constraints]

/-- The row that decides a cost names the function, or is the one that decides for the functions no row names. -/
theorem cost_row (cls : FormatClass) (opcode : BitVec 6) (f : BitVec 11) : ∀ rules : List CostRule,
    (∃ r ∈ rules, r.func = some f) ∨
    rules.find? (fun r => r.cls == cls && (r.opcode.all (· == opcode)) && (r.func.all (· == f))) =
      rules.find? (fun r => r.cls == cls && (r.opcode.all (· == opcode)) && r.func.isNone)
  | [] => .inr rfl
  | r :: rs => by
    rcases hf : r.func with _ | g
    · rcases cost_row cls opcode f rs with ⟨x, hx, hxf⟩ | h
      · exact .inl ⟨x, by simp [hx], hxf⟩
      · right; simp only [List.find?_cons, hf, h]; simp
    · by_cases hg : g = f
      · exact .inl ⟨r, by simp, by rw [hf, hg]⟩
      · rcases cost_row cls opcode f rs with ⟨x, hx, hxf⟩ | h
        · exact .inl ⟨x, by simp [hx], hxf⟩
        · right; simp [hf, h, hg]

/-- `costIs` says it of every function number (R241). -/
theorem Config.costIs_all (c : Config) {cls : FormatClass} {opcode : BitVec 6} {k : CostClass}
    (h : c.costIs cls opcode k = true) (f : BitVec 11) : c.costClass cls opcode f = k := by
  simp only [Config.costIs, Bool.and_eq_true, beq_iff_eq, List.all_eq_true] at h
  rcases cost_row cls opcode f c.costRules with ⟨r, hr, hf⟩ | hfind
  · have := h.2 r hr
    simpa [hf] using this
  · rw [← h.1]
    simp only [Config.costClass, Config.costElse, hfind]

/-- The costs the source's examples force, under a legal configuration (R241). -/
theorem Config.costOk_all (c : Config) (h : c.ok = true) (f : BitVec 11) :
    c.costClass .operate 0x10 f = .trivial ∧ c.costClass .operate 0x11 f = .trivial ∧
    c.costClass .operate 0x12 f = .moderate ∧ c.costClass .operate 0x13 f = .heavy ∧
    c.costClass .floatOp 0x14 f = .heavy := by
  have hc := ((Config.ok_iff c).mp h)
  have hk : c.costOk = true := by tauto
  simp only [Config.costOk, Bool.and_eq_true] at hk
  obtain ⟨⟨⟨⟨h0, h1⟩, h2⟩, h3⟩, h4⟩ := hk
  exact ⟨Config.costIs_all c h0 f, Config.costIs_all c h1 f, Config.costIs_all c h2 f, Config.costIs_all c h3 f,
    Config.costIs_all c h4 f⟩

/-- `nopFunc` is the function number Decode leaves in the no-op word (R220 to R225, R245). -/
theorem decodeRecord_nopFunc (c : Config) (r : InstrRecord) :
    (decodeRecord c nopCode r).func = nopFunc (c.classOfOpcode 0x11) := by
  have ho : opcodeOf nopCode = 0x11 := by decide
  simp only [decodeRecord, decodeClass, decodeCommon, ho]
  cases h : c.classOfOpcode 0x11 <;> simp [decodeMemory, decodeBranch, decodeOperate, decodeFloatOp, decodeJump,
    decodeMisc, decodeInvalid, nopFunc, nopCode]

end Sys2Proof.Machine
end

