-- ==== Sys2Proof/Laws/Cache.lean ====
section
/-! SUPPORT. The cache hierarchy: reading levels, sets and ways after a write of one, and what each operation of an access
does in each of its cases. -/

namespace Sys2Proof.Machine

@[simp] theorem MemSys.setLevel_level_same (m : MemSys) (l : Level) (lv : CacheLevel) :
    (m.setLevel l lv).level l = lv := by simp [MemSys.setLevel, MemSys.level]

theorem MemSys.setLevel_level_ne (m : MemSys) {l j : Level} (lv : CacheLevel) (h : j ≠ l) :
    (m.setLevel l lv).level j = m.level j := by simp [MemSys.setLevel, MemSys.level, LevelMap.get_set_ne _ _ h]

@[simp] theorem MemSys.setLevel_mem (m : MemSys) (l : Level) (lv : CacheLevel) : (m.setLevel l lv).mem = m.mem := rfl

@[simp] theorem MemSys.setLevel_victims (m : MemSys) (l : Level) (lv : CacheLevel) :
    (m.setLevel l lv).victims = m.victims := rfl

@[simp] theorem MemSys.putSet_mem (m : MemSys) (l : Level) (i : Nat) (st : CacheSet) :
    (m.putSet l i st).mem = m.mem := rfl

@[simp] theorem MemSys.putSet_victims (m : MemSys) (l : Level) (i : Nat) (st : CacheSet) :
    (m.putSet l i st).victims = m.victims := rfl

@[simp] theorem MemSys.putLine_mem (m : MemSys) (l : Level) (i w : Nat) (ln : CacheLine) :
    (m.putLine l i w ln).mem = m.mem := rfl

@[simp] theorem MemSys.putLine_victims (m : MemSys) (l : Level) (i w : Nat) (ln : CacheLine) :
    (m.putLine l i w ln).victims = m.victims := rfl

@[simp] theorem MemSys.countHit_mem (m : MemSys) (l : Level) : (m.countHit l).mem = m.mem := rfl

@[simp] theorem MemSys.countMiss_mem (m : MemSys) (l : Level) : (m.countMiss l).mem = m.mem := rfl

@[simp] theorem MemSys.countEviction_mem (m : MemSys) (l : Level) : (m.countEviction l).mem = m.mem := rfl

@[simp] theorem MemSys.countWriteback_mem (m : MemSys) (l : Level) : (m.countWriteback l).mem = m.mem := rfl

/-- A hit and a counted miss change neither main memory nor the victims' draws, and no other level. -/
@[simp] theorem MemSys.afterHit_mem (m : MemSys) (l : Level) (i w : Nat) (ln : CacheLine) :
    (m.afterHit l i w ln).mem = m.mem ∧ (m.afterHit l i w ln).victims = m.victims := ⟨rfl, rfl⟩

@[simp] theorem MemSys.afterMiss_mem (m : MemSys) (l : Level) (i : Nat) :
    (m.afterMiss l i).mem = m.mem ∧ (m.afterMiss l i).victims = m.victims := ⟨rfl, rfl⟩

theorem MemSys.afterHit_level_ne (m : MemSys) {l j : Level} (i w : Nat) (ln : CacheLine) (h : j ≠ l) :
    (m.afterHit l i w ln).level j = m.level j := m.setLevel_level_ne _ h

theorem MemSys.afterMiss_level_ne (m : MemSys) {l j : Level} (i : Nat) (h : j ≠ l) :
    (m.afterMiss l i).level j = m.level j := m.setLevel_level_ne _ h

/-- Traffic below a level that leaves its line, and then leaves it or drops it, has left it or dropped it (R145). -/
theorem CacheLine.keptOrDropped_refl (ln : CacheLine) : ln.keptOrDropped ln := .inl rfl

theorem CacheLine.keptOrDropped_trans {x y z : CacheLine} (h : x.keptOrDropped y) (h' : y.keptOrDropped z) :
    x.keptOrDropped z := by
  rcases h with rfl | ⟨hv, hs, rfl⟩
  · exact h'
  · rcases h' with rfl | ⟨hv', _, _⟩
    · exact .inr ⟨hv, hs, rfl⟩
    · simp at hv'

/-- The coherency rule on one line leaves it or drops it (R145). -/
theorem CacheLine.keptOrDropped_coherent (tag : Word) (ln : CacheLine) :
    ln.keptOrDropped (CacheLine.coherent tag ln) := by
  unfold CacheLine.coherent
  split
  · rename_i h
    simp only [CacheLine.hasTag, Bool.and_eq_true, beq_iff_eq] at h
    exact .inr ⟨h.1.1, h.2, rfl⟩
  · exact .inl rfl

@[simp] theorem MemSys.dropWay_mem (m : MemSys) (l : Level) (i w n : Nat) :
    (m.dropWay l i w n).mem = m.mem ∧ (m.dropWay l i w n).victims = m.victims := ⟨rfl, rfl⟩

theorem MemSys.dropWay_level_ne (m : MemSys) {l j : Level} (i w n : Nat) (h : j ≠ l) :
    (m.dropWay l i w n).level j = m.level j := m.setLevel_level_ne _ h

/-- Counting changes no set. -/
@[simp] theorem MemSys.countHit_setAt (m : MemSys) (l j : Level) (i : Nat) :
    (m.countHit l).setAt j i = m.setAt j i := by
  cases l <;> cases j <;> rfl

@[simp] theorem MemSys.countMiss_setAt (m : MemSys) (l j : Level) (i : Nat) :
    (m.countMiss l).setAt j i = m.setAt j i := by
  cases l <;> cases j <;> rfl

@[simp] theorem MemSys.countEviction_setAt (m : MemSys) (l j : Level) (i : Nat) :
    (m.countEviction l).setAt j i = m.setAt j i := by
  cases l <;> cases j <;> rfl

@[simp] theorem MemSys.countWriteback_setAt (m : MemSys) (l j : Level) (i : Nat) :
    (m.countWriteback l).setAt j i = m.setAt j i := by
  cases l <;> cases j <;> rfl

/-- A set read after a set is replaced. -/
theorem MemSys.putSet_setAt_same (m : MemSys) (l : Level) (i : Nat) (st : CacheSet)
    (h : i < (m.level l).sets.length) : (m.putSet l i st).setAt l i = st := by
  simp [MemSys.putSet, MemSys.setAt, CacheLevel.setAt, h]

theorem MemSys.putSet_setAt_other (m : MemSys) (l : Level) {i j : Nat} (st : CacheSet) (h : j ≠ i) :
    (m.putSet l i st).setAt l j = m.setAt l j := by
  simp [MemSys.putSet, MemSys.setAt, CacheLevel.setAt, List.getElem?_set_ne (Ne.symm h)]

theorem MemSys.putSet_setAt_level (m : MemSys) {l l' : Level} (i j : Nat) (st : CacheSet) (h : l' ≠ l) :
    (m.putSet l i st).setAt l' j = m.setAt l' j := by
  simp [MemSys.putSet, MemSys.setAt, MemSys.setLevel_level_ne _ _ h]

@[simp] theorem MemSys.putSet_sets_length (m : MemSys) (l l' : Level) (i : Nat) (st : CacheSet) :
    ((m.putSet l i st).level l').sets.length = (m.level l').sets.length := by
  cases l <;> cases l' <;> simp [MemSys.putSet, MemSys.setLevel, MemSys.level, LevelMap.get, LevelMap.set]

/-! ## The operations of an access -/

theorem locate_hit (c : Config) (lower : Lower) (l : Level) (a : Word) (m : MemSys) (w : Nat)
    (h : (m.setAt l (c.indexOf l a)).lookup (c.tagOf l a) = some w) :
    locate c lower l a m =
      (w, let i := c.indexOf l a
          let st := m.setAt l i
          let m2 := (m.putSet l i { st with accessCounter := st.accessCounter + 1 }).countHit l
          m2.putLine l i w { m2.line l i w with lastAccess := st.accessCounter + 1 }) := by
  simp [locate, h]

theorem locate_miss (c : Config) (lower : Lower) (l : Level) (a : Word) (m : MemSys)
    (h : (m.setAt l (c.indexOf l a)).lookup (c.tagOf l a) = none) :
    locate c lower l a m = miss c lower l a
      (m.putSet l (c.indexOf l a)
        { m.setAt l (c.indexOf l a) with accessCounter := (m.setAt l (c.indexOf l a)).accessCounter + 1 }) := by
  simp [locate, h]

theorem retire_clean (c : Config) (lower : Lower) (l : Level) (i w : Nat) (m : MemSys)
    (h : (m.line l i w).dirty = false) :
    retire c lower l i w m = m.putLine l i w (m.line l i w).invalidated := by
  simp [retire, h]

theorem retire_dirty (c : Config) (lower : Lower) (l : Level) (i w : Nat) (m : MemSys)
    (h : (m.line l i w).dirty = true) :
    retire c lower l i w m =
      (lower (.write (c.compose l (m.line l i w).tag i 0) (m.line l i w).data)
        ((m.putLine l i w (m.line l i w).invalidated).countWriteback l)).2 := by
  simp [retire, h]

theorem evict_invalid (c : Config) (lower : Lower) (l : Level) (i w : Nat) (m : MemSys)
    (h : (m.line l i w).valid = false) : evict c lower l i w m = m := by simp [evict, h]

theorem evict_valid (c : Config) (lower : Lower) (l : Level) (i w : Nat) (m : MemSys)
    (h : (m.line l i w).valid = true) : evict c lower l i w m = retire c lower l i w (m.countEviction l) := by
  simp [evict, h]

theorem writebackInvalidate_invalid (c : Config) (lower : Lower) (l : Level) (i w : Nat) (m : MemSys)
    (h : (m.line l i w).valid = false) : writebackInvalidate c lower l i w m = m := by
  simp [writebackInvalidate, h]

theorem writebackInvalidate_valid (c : Config) (lower : Lower) (l : Level) (i w : Nat) (m : MemSys)
    (h : (m.line l i w).valid = true) : writebackInvalidate c lower l i w m = retire c lower l i w m := by
  simp [writebackInvalidate, h]

theorem access_mem_read (c : Config) (a : Word) (n : Nat) (m : MemSys) :
    access c [] (.read a n) m = (m.mem.readBytes a n, m) := rfl

theorem access_mem_write (c : Config) (a : Word) (bs : List Byte) (m : MemSys) :
    access c [] (.write a bs) m = ([], { m with mem := m.mem.writeBytes a bs }) := rfl

/-- The lowest invalid way is the victim where there is one (R143). -/
theorem victim_invalid (c : Config) (l : Level) (i : Nat) (m : MemSys) (w : Nat)
    (h : (m.setAt l i).ways.findIdx? (fun ln => !ln.valid) = some w) : victim c l i m = (w, m) := by
  simp [victim, h]

/-- An access that is not inside one line is refused by either path (R133). -/
theorem cacheRead_illegal (c : Config) (k : ReadKind) (a : Word) (n : Nat) (m : MemSys) (h : c.legal a n = false) :
    cacheRead c k a n m = none := by simp [cacheRead, h]

theorem cacheWrite_illegal (c : Config) (a : Word) (bs : List Byte) (m : MemSys)
    (h : c.legal a bs.length = false) : cacheWrite c a bs m = none := by simp [cacheWrite, h]

theorem cacheRead_legal (c : Config) (k : ReadKind) (a : Word) (n : Nat) (m : MemSys) (h : c.legal a n = true) :
    cacheRead c k a n m = some (access c k.first.chain (.read a n) m) := by simp [cacheRead, h]

theorem cacheWrite_legal (c : Config) (a : Word) (bs : List Byte) (m : MemSys)
    (h : c.legal a bs.length = true) :
    cacheWrite c a bs m = some (access c Level.l1d.chain (.write a bs) m).2 := by simp [cacheWrite, h]

end Sys2Proof.Machine
end

