-- ==== Sys2Proof/Laws/PerInstr.lean ====
section
/-! SUPPORT. Statements about every instruction, one lemma per constructor. `TableMatch`: the encoding of the instruction has the
fixed bits that its row of spec/opcode_table.json gives (R106, R107, R120). -/

namespace Sys2Proof.Laws.TableMatch

/-- The fixed bits of an instruction's row: the mask and the match over the command word or the instruction word. -/
def row : Instr → Nat × Nat
  | .cRead .. => (0xFFFF, 0x0000)
  | .cWrite .. => (0xFFFF, 0x0001)
  | .cIfetch .. => (0xFFFF, 0x0002)
  | .cFlushall => (0xFFFF, 0x0100)
  | .cInvrange .. => (0xFFFF, 0x0200)
  | .cValidate => (0xFFFF, 0x0300)
  | .cRdstat .. => (0xFFF0, 0x0400)
  | .sInit .. => (0xFFFC, 0x1000)
  | .sStart .. => (0xFFFC, 0x1100)
  | .sSubmit .. => (0xFFFC, 0x1200)
  | .sStep .. => (0xFFFC, 0x1300)
  | .sAdjust .. => (0xFFFC, 0x1400)
  | .sShutdown .. => (0xFFFC, 0x1500)
  | .sFlush .. => (0xFFFC, 0x1600)
  | .sRdstat .. => (0xFFE0, 0x1700)
  | .fRedirect .. => (0xFFFF, 0x2000)
  | .fFlushreq => (0xFFFF, 0x2100)
  | .fSetpc .. => (0xFFFF, 0x2200)
  | .fRdstat .. => (0xFFFC, 0x2300)
  | .xComplete .. => (0xFFFF, 0x3000)
  | .xRdstat .. => (0xFFF8, 0x3100)
  | .wRdstat .. => (0xFFF8, 0x4000)
  | .kStart => (0xFFFF, 0x5000)
  | .kStop => (0xFFFF, 0x5100)
  | .kFlush => (0xFFFF, 0x5200)
  | .kException .. => (0xFFFF, 0x5300)
  | .kTick => (0xFFFF, 0x5400)
  | .kRdstate .. => (0xFFFE, 0x5500)
  | .kAdvance => (0xFFFF, 0x5700)
  | .reset => (0xFFFF, 0xF000)
  | .nopWord => (0xFFFFFFFF, 0x47FF041F)
  | .misc00 .. => (0xFC000000, 0x00000000)
  | .invalid01 .. => (0xFC000000, 0x04000000)
  | .invalid02 .. => (0xFC000000, 0x08000000)
  | .invalid03 .. => (0xFC000000, 0x0C000000)
  | .invalid04 .. => (0xFC000000, 0x10000000)
  | .invalid05 .. => (0xFC000000, 0x14000000)
  | .invalid06 .. => (0xFC000000, 0x18000000)
  | .invalid07 .. => (0xFC000000, 0x1C000000)
  | .memory08 .. => (0xE0000000, 0x20000000)
  | .operate10 .. => (0xF0000000, 0x40000000)
  | .floatOp14 .. => (0xF0000000, 0x50000000)
  | .misc18 .. => (0xFC000000, 0x60000000)
  | .invalid19 .. => (0xFC000000, 0x64000000)
  | .jump1A .. => (0xFC000000, 0x68000000)
  | .invalid1B .. => (0xFC000000, 0x6C000000)
  | .operate1C .. => (0xFC000000, 0x70000000)
  | .invalid1D .. => (0xFC000000, 0x74000000)
  | .invalid1E .. => (0xFC000000, 0x78000000)
  | .invalid1F .. => (0xFC000000, 0x7C000000)
  | .memory20 .. => (0xC0000000, 0x80000000)
  | .branch30 .. => (0xC0000000, 0xC0000000)

/-- An encoding has the fixed bits of a row. -/
def fixedBits (mask pattern : Nat) : Encoding → Prop
  | .packet p => p.cw &&& BitVec.ofNat 16 mask = BitVec.ofNat 16 pattern
  | .word w => w &&& BitVec.ofNat 32 mask = BitVec.ofNat 32 pattern

/-- The encoding of an instruction has the fixed bits of its row. -/
def Statement (i : Instr) : Prop := fixedBits (row i).1 (row i).2 (encode i)

theorem word_ext {v w : IWord} (h : ∀ k < 32, v.getLsbD k = w.getLsbD k) : v = w := BitVec.eq_of_getLsbD_eq h

theorem cRead (addr : Word) (size : Word) : Statement (.cRead addr size) := by
  show (0x0000 : CWord) &&& BitVec.ofNat 16 0xFFFF = BitVec.ofNat 16 0x0000
  decide

theorem cWrite (addr : Word) (size : Word) (payload : List Byte) : Statement (.cWrite addr size payload) := by
  show (0x0001 : CWord) &&& BitVec.ofNat 16 0xFFFF = BitVec.ofNat 16 0x0001
  decide

theorem cIfetch (addr : Word) (size : Word) : Statement (.cIfetch addr size) := by
  show (0x0002 : CWord) &&& BitVec.ofNat 16 0xFFFF = BitVec.ofNat 16 0x0002
  decide

theorem cFlushall : Statement (.cFlushall) := by
  show (0x0100 : CWord) &&& BitVec.ofNat 16 0xFFFF = BitVec.ofNat 16 0x0100
  decide

theorem cInvrange (addr : Word) (len : Word) : Statement (.cInvrange addr len) := by
  show (0x0200 : CWord) &&& BitVec.ofNat 16 0xFFFF = BitVec.ofNat 16 0x0200
  decide

theorem cValidate : Statement (.cValidate) := by
  show (0x0300 : CWord) &&& BitVec.ofNat 16 0xFFFF = BitVec.ofNat 16 0x0300
  decide

theorem cRdstat (level : Level) (counter : CacheCounter) : Statement (.cRdstat level counter) := by
  cases level <;> cases counter <;> simp [Statement, row, fixedBits, encode, plainPacket, Level.code, CacheCounter.code]

theorem sInit (stage : StageId) : Statement (.sInit stage) := by
  cases stage <;> simp [Statement, row, fixedBits, encode, plainPacket, stageCW, StageId.code]

theorem sStart (stage : StageId) : Statement (.sStart stage) := by
  cases stage <;> simp [Statement, row, fixedBits, encode, plainPacket, stageCW, StageId.code]

theorem sSubmit (stage : StageId) (record : InstrRecord) : Statement (.sSubmit stage record) := by
  cases stage <;> simp [Statement, row, fixedBits, encode, stageCW, StageId.code]

theorem sStep (stage : StageId) : Statement (.sStep stage) := by
  cases stage <;> simp [Statement, row, fixedBits, encode, plainPacket, stageCW, StageId.code]

theorem sAdjust (stage : StageId) (n : Word) : Statement (.sAdjust stage n) := by
  cases stage <;> simp [Statement, row, fixedBits, encode, plainPacket, stageCW, StageId.code]

theorem sShutdown (stage : StageId) : Statement (.sShutdown stage) := by
  cases stage <;> simp [Statement, row, fixedBits, encode, plainPacket, stageCW, StageId.code]

theorem sFlush (stage : StageId) : Statement (.sFlush stage) := by
  cases stage <;> simp [Statement, row, fixedBits, encode, plainPacket, stageCW, StageId.code]

theorem sRdstat (stage : StageId) (sel : StageSel) : Statement (.sRdstat stage sel) := by
  cases stage <;> cases sel <;> simp [Statement, row, fixedBits, encode, plainPacket, StageId.code, StageSel.code]

theorem fRedirect (target : Word) : Statement (.fRedirect target) := by
  show (0x2000 : CWord) &&& BitVec.ofNat 16 0xFFFF = BitVec.ofNat 16 0x2000
  decide

theorem fFlushreq : Statement (.fFlushreq) := by
  show (0x2100 : CWord) &&& BitVec.ofNat 16 0xFFFF = BitVec.ofNat 16 0x2100
  decide

theorem fSetpc (pc : Word) : Statement (.fSetpc pc) := by
  show (0x2200 : CWord) &&& BitVec.ofNat 16 0xFFFF = BitVec.ofNat 16 0x2200
  decide

theorem fRdstat (sel : FetchSel) : Statement (.fRdstat sel) := by
  cases sel <;> simp [Statement, row, fixedBits, encode, plainPacket, FetchSel.code]

theorem xComplete (id : Word) : Statement (.xComplete id) := by
  show (0x3000 : CWord) &&& BitVec.ofNat 16 0xFFFF = BitVec.ofNat 16 0x3000
  decide

theorem xRdstat (sel : ExecSel) : Statement (.xRdstat sel) := by
  cases sel <;> simp [Statement, row, fixedBits, encode, plainPacket, ExecSel.code]

theorem wRdstat (sel : WbSel) : Statement (.wRdstat sel) := by
  cases sel <;> simp [Statement, row, fixedBits, encode, plainPacket, WbSel.code]

theorem kStart : Statement (.kStart) := by
  show (0x5000 : CWord) &&& BitVec.ofNat 16 0xFFFF = BitVec.ofNat 16 0x5000
  decide

theorem kStop : Statement (.kStop) := by
  show (0x5100 : CWord) &&& BitVec.ofNat 16 0xFFFF = BitVec.ofNat 16 0x5100
  decide

theorem kFlush : Statement (.kFlush) := by
  show (0x5200 : CWord) &&& BitVec.ofNat 16 0xFFFF = BitVec.ofNat 16 0x5200
  decide

theorem kException (vector : Word) (pc : Word) : Statement (.kException vector pc) := by
  show (0x5300 : CWord) &&& BitVec.ofNat 16 0xFFFF = BitVec.ofNat 16 0x5300
  decide

theorem kTick : Statement (.kTick) := by
  show (0x5400 : CWord) &&& BitVec.ofNat 16 0xFFFF = BitVec.ofNat 16 0x5400
  decide

theorem kRdstate (sel : CtrlSel) : Statement (.kRdstate sel) := by
  cases sel <;> simp [Statement, row, fixedBits, encode, plainPacket, CtrlSel.code]

theorem kAdvance : Statement (.kAdvance) := by
  show (0x5700 : CWord) &&& BitVec.ofNat 16 0xFFFF = BitVec.ofNat 16 0x5700
  decide

theorem reset : Statement (.reset) := by
  show (0xF000 : CWord) &&& BitVec.ofNat 16 0xFFFF = BitVec.ofNat 16 0xF000
  decide

theorem nopWord : Statement (.nopWord) := by
  unfold Statement
  rfl

theorem misc00 (ra : RegNum) (rb : RegNum) (func16 : BitVec 16) : Statement (.misc00 ra rb func16) := by
  exact word_ext (fun k hk => by
      interval_cases k <;>
        simp [row, halfWord, place])

theorem invalid01 (body : BitVec 26) : Statement (.invalid01 body) := by
  exact word_ext (fun k hk => by
      interval_cases k <;>
        simp [row, bodyWord, place])

theorem invalid02 (body : BitVec 26) : Statement (.invalid02 body) := by
  exact word_ext (fun k hk => by
      interval_cases k <;>
        simp [row, bodyWord, place])

theorem invalid03 (body : BitVec 26) : Statement (.invalid03 body) := by
  exact word_ext (fun k hk => by
      interval_cases k <;>
        simp [row, bodyWord, place])

theorem invalid04 (body : BitVec 26) : Statement (.invalid04 body) := by
  exact word_ext (fun k hk => by
      interval_cases k <;>
        simp [row, bodyWord, place])

theorem invalid05 (body : BitVec 26) : Statement (.invalid05 body) := by
  exact word_ext (fun k hk => by
      interval_cases k <;>
        simp [row, bodyWord, place])

theorem invalid06 (body : BitVec 26) : Statement (.invalid06 body) := by
  exact word_ext (fun k hk => by
      interval_cases k <;>
        simp [row, bodyWord, place])

theorem invalid07 (body : BitVec 26) : Statement (.invalid07 body) := by
  exact word_ext (fun k hk => by
      interval_cases k <;>
        simp [row, bodyWord, place])

theorem memory08 (opc : BitVec 3) (ra : RegNum) (rb : RegNum) (disp16 : BitVec 16) : Statement (.memory08 opc ra rb disp16) := by
  exact word_ext (fun k hk => by
      interval_cases k <;>
        simp [row, halfWord, place, opcodeIn])

theorem operate10 (opc : BitVec 2) (ra : RegNum) (operand : OperateOperand) (func : BitVec 7) (rc : RegNum) : Statement (.operate10 opc ra operand func rc) := by
  cases operand <;>
    exact word_ext (fun k hk => by
      interval_cases k <;>
        simp [row, operateWord, operandBits, place, opcodeIn])

theorem floatOp14 (opc : BitVec 2) (fa : RegNum) (fb : RegNum) (func : BitVec 11) (fc : RegNum) : Statement (.floatOp14 opc fa fb func fc) := by
  exact word_ext (fun k hk => by
      interval_cases k <;>
        simp [row, floatWord, place, opcodeIn])

theorem misc18 (ra : RegNum) (rb : RegNum) (func16 : BitVec 16) : Statement (.misc18 ra rb func16) := by
  exact word_ext (fun k hk => by
      interval_cases k <;>
        simp [row, halfWord, place])

theorem invalid19 (body : BitVec 26) : Statement (.invalid19 body) := by
  exact word_ext (fun k hk => by
      interval_cases k <;>
        simp [row, bodyWord, place])

theorem jump1A (ra : RegNum) (rb : RegNum) (type : BitVec 2) (hint : BitVec 14) : Statement (.jump1A ra rb type hint) := by
  exact word_ext (fun k hk => by
      interval_cases k <;>
        simp [row, jumpWord, place])

theorem invalid1B (body : BitVec 26) : Statement (.invalid1B body) := by
  exact word_ext (fun k hk => by
      interval_cases k <;>
        simp [row, bodyWord, place])

theorem operate1C (ra : RegNum) (operand : OperateOperand) (func : BitVec 7) (rc : RegNum) : Statement (.operate1C ra operand func rc) := by
  cases operand <;>
    exact word_ext (fun k hk => by
      interval_cases k <;>
        simp [row, operateWord, operandBits, place])

theorem invalid1D (body : BitVec 26) : Statement (.invalid1D body) := by
  exact word_ext (fun k hk => by
      interval_cases k <;>
        simp [row, bodyWord, place])

theorem invalid1E (body : BitVec 26) : Statement (.invalid1E body) := by
  exact word_ext (fun k hk => by
      interval_cases k <;>
        simp [row, bodyWord, place])

theorem invalid1F (body : BitVec 26) : Statement (.invalid1F body) := by
  exact word_ext (fun k hk => by
      interval_cases k <;>
        simp [row, bodyWord, place])

theorem memory20 (opc : BitVec 4) (ra : RegNum) (rb : RegNum) (disp16 : BitVec 16) : Statement (.memory20 opc ra rb disp16) := by
  exact word_ext (fun k hk => by
      interval_cases k <;>
        simp [row, halfWord, place, opcodeIn])

theorem branch30 (opc : BitVec 4) (ra : RegNum) (disp21 : BitVec 21) : Statement (.branch30 opc ra disp21) := by
  exact word_ext (fun k hk => by
      interval_cases k <;>
        simp [row, branchWord, place, opcodeIn])

end Sys2Proof.Laws.TableMatch
end

