-- ==== Sys2Proof/Tests/Slice0.lean ====
section
/-! SUPPORT. Tests of the model: the smoke tests of `wellFormed`, the decoding of words written out from the spec's encoding
tables, one-step tests whose expected values are those of 95_test_vectors.md section 2 (its row is named in each
docstring), and, for every statement that has hypotheses, a witness that meets them. -/

namespace Sys2Proof.Tests

open Sys2Proof Sys2Proof.Machine

-- One theorem after another: each kernel evaluation in a thread of its own takes more stack than the memory limit allows.
set_option Elab.async false

/-! ## Well-formedness -/

/-- A `C.WRITE` payload longer than a line is refused, one of exactly a line is not (R100). -/
theorem test_wellFormed_payload :
    (Instr.cWrite 0 17 (List.replicate 17 0)).wellFormed vectorConfig = false ∧
    (Instr.cWrite 0 16 (List.replicate 16 0)).wellFormed vectorConfig = true := by decide

/-- The no-op word is written `nopWord`, not as an Operate word (R125). -/
theorem test_wellFormed_nop :
    (Instr.operate10 1 31 (.reg 31 0) 0x20 31).wellFormed vectorConfig = false ∧
    Instr.nopWord.wellFormed vectorConfig = true := by decide

/-- The costs the source's examples force (R241): integer add may not be Heavy, nor multiply Trivial, whatever the function;
and the no-op word may not be Heavy as Decode leaves it where opcode 0x11 is of another class (R245). -/
theorem test_config_costs :
    let first (c : CostRule) : Config := { vectorConfig with costRules := c :: defaultCostRules }
    vectorConfig.ok = true ∧ (first ⟨.operate, some 0x10, none, .heavy⟩).ok = false ∧
    (first ⟨.operate, some 0x10, some 3, .heavy⟩).ok = false ∧ (first ⟨.operate, some 0x13, none, .trivial⟩).ok = false ∧
    (first ⟨.floatOp, some 0x17, none, .heavy⟩).ok = true ∧
    ({ first ⟨.memory, some 0x11, some 0, .heavy⟩ with
      classOf := vectorConfig.classOf.set 0x11 .memory } : Config).ok = false := by decide +kernel

/-! ## Decoding (R101, R106 to R111; 95_test_vectors.md section 2.8) -/

/-- The cache unit's command words (R106). -/
theorem test_decode_cache :
    decodePacket (plainPacket 0x0000 5 6) = .ok (.cRead 5 6) ∧
    decodePacket ⟨0x0001, 5, 1, .bytes [9]⟩ = .ok (.cWrite 5 1 [9]) ∧
    decodePacket (plainPacket 0x0002 5 6) = .ok (.cIfetch 5 6) ∧
    decodePacket (plainPacket 0x0100 0 0) = .ok .cFlushall ∧
    decodePacket (plainPacket 0x0200 5 6) = .ok (.cInvrange 5 6) ∧
    decodePacket (plainPacket 0x0300 0 0) = .ok .cValidate ∧
    decodePacket (plainPacket 0x0405 0 0) = .ok (.cRdstat .l1d .misses) ∧
    decodePacket (plainPacket 0x040F 0 0) = .ok (.cRdstat .l3 .writebacks) := by
  refine ⟨rfl, rfl, rfl, rfl, rfl, rfl, rfl, rfl⟩

/-- The stage unit's command words (R107, R109). -/
theorem test_decode_stage :
    decodePacket (plainPacket 0x1000 0 0) = .ok (.sInit .f) ∧
    decodePacket (plainPacket 0x1101 0 0) = .ok (.sStart .d) ∧
    decodePacket ⟨0x1203, 0, 0, .record InstrRecord.zero⟩ = .ok (.sSubmit .w InstrRecord.zero) ∧
    decodePacket (plainPacket 0x1301 0 0) = .ok (.sStep .d) ∧
    decodePacket (plainPacket 0x1402 7 0) = .ok (.sAdjust .e 7) ∧
    decodePacket (plainPacket 0x1502 0 0) = .ok (.sShutdown .e) ∧
    decodePacket (plainPacket 0x1603 0 0) = .ok (.sFlush .w) ∧
    decodePacket (plainPacket 0x1711 0 0) = .ok (.sRdstat .d .backpressureEvents) ∧
    decodePacket (plainPacket 0x171F 0 0) = .ok (.sRdstat .w .life) := by
  refine ⟨rfl, rfl, rfl, rfl, rfl, rfl, rfl, rfl, rfl⟩

/-- The command words of Fetch, Execute and Writeback (R107, R110). -/
theorem test_decode_units :
    decodePacket (plainPacket 0x2000 8 0) = .ok (.fRedirect 8) ∧
    decodePacket (plainPacket 0x2100 0 0) = .ok .fFlushreq ∧
    decodePacket (plainPacket 0x2200 8 0) = .ok (.fSetpc 8) ∧
    decodePacket (plainPacket 0x2302 0 0) = .ok (.fRdstat .fcMisses) ∧
    decodePacket (plainPacket 0x3000 3 0) = .ok (.xComplete 3) ∧
    decodePacket (plainPacket 0x3104 0 0) = .ok (.xRdstat .compilationTriggers) ∧
    decodePacket (plainPacket 0x4004 0 0) = .ok (.wRdstat .branchRedirects) := by
  refine ⟨rfl, rfl, rfl, rfl, rfl, rfl, rfl⟩

/-- The command words of the controller, and `RESET` (R107, R110). -/
theorem test_decode_controller :
    decodePacket (plainPacket 0x5000 0 0) = .ok .kStart ∧
    decodePacket (plainPacket 0x5100 0 0) = .ok .kStop ∧
    decodePacket (plainPacket 0x5200 0 0) = .ok .kFlush ∧
    decodePacket (plainPacket 0x5300 3 4) = .ok (.kException 3 4) ∧
    decodePacket (plainPacket 0x5400 0 0) = .ok .kTick ∧
    decodePacket (plainPacket 0x5501 0 0) = .ok (.kRdstate .pendingFlush) ∧
    decodePacket (plainPacket 0x5700 0 0) = .ok .kAdvance ∧
    decodePacket (plainPacket 0xF000 0 0) = .ok .reset := by
  refine ⟨rfl, rfl, rfl, rfl, rfl, rfl, rfl, rfl⟩

/-- The reserved words of section 2.8, each refused by name. -/
theorem test_decode_reserved :
    decodePacket (plainPacket 0x0003 0 0) = .error .reservedMod ∧
    decodePacket (plainPacket 0x0101 0 0) = .error .reservedMod ∧
    decodePacket (plainPacket 0x0410 0 0) = .error .reservedMod ∧
    decodePacket ⟨0x1204, 0, 0, .record InstrRecord.zero⟩ = .error .reservedMod ∧
    decodePacket (plainPacket 0x1720 0 0) = .error .reservedMod ∧
    decodePacket (plainPacket 0x1800 0 0) = .error .reservedOp ∧
    decodePacket (plainPacket 0x3105 0 0) = .error .reservedSelector ∧
    decodePacket (plainPacket 0x4006 0 0) = .error .reservedSelector ∧
    decodePacket (plainPacket 0x5600 0 0) = .error .reservedOp ∧
    decodePacket (plainPacket 0x6000 0 0) = .error .reservedUnit ∧
    decodePacket (plainPacket 0xE000 0 0) = .error .reservedUnit ∧
    decodePacket (plainPacket 0xF001 0 0) = .error .reservedMod := by
  refine ⟨rfl, rfl, rfl, rfl, rfl, rfl, rfl, rfl, rfl, rfl, rfl, rfl⟩

/-- The words of section 2.4, each with its row of the opcode table. -/
theorem test_decode_words :
    decodeWord 0x47FF041F = .nopWord ∧
    decodeWord 0xA4228000 = .memory20 9 1 2 0x8000 ∧
    decodeWord 0xE43FFFFF = .branch30 9 1 0x1FFFFF ∧
    decodeWord 0x40220403 = .operate10 0 1 (.reg 2 0) 0x20 3 ∧
    decodeWord 0x4020B403 = .operate10 0 1 (.lit 5) 0x20 3 ∧
    decodeWord 0x04000000 = .invalid01 0 ∧
    decodeWord 0xB43F0100 = .memory20 0xD 1 31 0x100 ∧
    decodeWord 0x20410010 = .memory08 0 2 1 0x10 ∧
    decodeWord 0x6BFA8001 = .jump1A 31 26 2 1 ∧
    decodeWord 0x00000083 = .misc00 0 0 0x83 := by decide +kernel

/-- The rows section 2.4 has no word of: `0x14 << 26 | 1 << 21 | 2 << 16 | 0xA0 << 5 | 3`, `0x18 << 26 | 4 << 21 | 5 << 16 | 6`,
`0x1C << 26 | 1 << 21 | 2 << 16 | 7 << 5 | 3` (R120). -/
theorem test_decode_words_rest :
    decodeWord 0x50221403 = .floatOp14 0 1 2 0xA0 3 ∧
    decodeWord 0x60850006 = .misc18 4 5 6 ∧
    decodeWord 0x702200E3 = .operate1C 1 (.reg 2 0) 7 3 := by decide +kernel

/-- The reserved opcodes, `opcode << 26` with the lowest and the highest bit of the body set (R120, R124). -/
theorem test_decode_words_invalid :
    decodeWord 0x0A000001 = .invalid02 0x2000001 ∧ decodeWord 0x0E000001 = .invalid03 0x2000001 ∧
    decodeWord 0x12000001 = .invalid04 0x2000001 ∧ decodeWord 0x16000001 = .invalid05 0x2000001 ∧
    decodeWord 0x1A000001 = .invalid06 0x2000001 ∧ decodeWord 0x1E000001 = .invalid07 0x2000001 ∧
    decodeWord 0x66000001 = .invalid19 0x2000001 ∧ decodeWord 0x6E000001 = .invalid1B 0x2000001 ∧
    decodeWord 0x76000001 = .invalid1D 0x2000001 ∧ decodeWord 0x7A000001 = .invalid1E 0x2000001 ∧
    decodeWord 0x7E000001 = .invalid1F 0x2000001 := by decide +kernel

/-! ## States the tests start from -/

/-- Memory over a range of addresses, in the pattern M7 of 95_test_vectors.md section 0. -/
def m7 (lo n : Nat) : Memory :=
  (List.range n).filterMap (fun k =>
    let b : Byte := BitVec.ofNat 8 (7 * (lo + k) + 3)
    if b = 0 then none else some (lo + k, b))

/-- The state after reset with M7 in memory at 0x100 to 0x14F, 0x200 to 0x20F and 0x300 to 0x30F. -/
def cold : State :=
  { State.reset with sys := { State.reset.sys with mem := m7 0x100 80 ++ m7 0x200 16 ++ m7 0x300 16 } }

/-- A Running stage with a queue, of the limits of PC1. -/
def runningStage (q : List InstrRecord) : Stage :=
  { life := .running, queue := q, flushFlag := false, maxInFlight := 4, freePermits := 4 - q.length,
    stats := ⟨0, 0, 0, q.length, 0⟩ }

/-- Four Running stages with their queues, the controller Running, and draws of 0. -/
def busy (d e w : List InstrRecord) : State :=
  { cold with
    stages := ⟨runningStage [], runningStage d, runningStage e, runningStage w⟩
    ctrl := { resetCtrl with pstate := .running }
    draws := ⟨[0, 0, 0, 0], 0⟩ }

/-- A state with other registers 1, 2 and 3. -/
def withRegs (s : State) (a b c : Word) : State :=
  { s with ints := ((s.ints.set 1 a).set 2 b).set 3 c }

/-- A state with a word of four bytes in memory at 0x10000. -/
def withCode (s : State) (a b c d : Byte) : State :=
  { s with sys := { s.sys with mem := [(0x10000, a), (0x10001, b), (0x10002, c), (0x10003, d)] } }

/-- A fresh instruction at 0x10000. -/
def fresh (w : IWord) : InstrRecord := freshRecord w 0x10000

/-- A decoded instruction at 0x10000. -/
def decoded (w : IWord) : InstrRecord := decodeRecord vectorConfig w (fresh w)

/-- A decoded and executed instruction at 0x10000. -/
def executed (w : IWord) : InstrRecord := { decoded w with executed := true }

/-- A Writeback load of a size into integer register 3. -/
def loaded (n : AccessSize) (v : Word) : InstrRecord :=
  { executed 0xA47F0100 with accessSize := n, loadValue := v }

/-- The conditional branch of section 2.6. -/
def branchAt (taken : Bool) (target : Word) : InstrRecord :=
  { executed 0xF4200001 with pc := 0x10008, branchTarget := target, condResult := taken }

/-- An exception at Writeback, section 2.6 row 10. -/
def raised (v : Nat) : InstrRecord := { executed 0x47FF041F with hasException := true, excVector := v }

/-- A part of the state after an instruction. -/
def after {α : Type} (i : Instr) (s : State) (f : State → α) : Option α := (nextOf (exec i s)).map f

/-- A part of the state after two instructions. -/
def after2 {α : Type} (i j : Instr) (s : State) (f : State → α) : Option α := (runInstrs [i, j] s).map f

/-- The four counters of a level. -/
def counts (s : State) (l : Level) : List Nat :=
  [(s.sys.level l).hits, (s.sys.level l).misses, (s.sys.level l).evictions, (s.sys.level l).writebacks]

/-! ## Cache commands (section 2.1) -/

/-- Row 1. -/
theorem test_cRead_miss :
    after (.cRead 0x100 1) cold (fun t => (t.resp, counts t .l1d, counts t .l3, (t.sys.line .l3 0 0).state,
      (t.sys.line .l1d 0 0).state)) =
    some (some ⟨.ok, 0, [0x03]⟩, [0, 1, 0, 0], [0, 1, 0, 0], .exclusive, .shared) := by decide +kernel

/-- Row 7: an access across a line. -/
theorem test_cRead_span : after (.cRead 0x10C 8) cold (fun t => (t.resp, counts t .l1d)) =
    some (replyError .errSpan, [0, 0, 0, 0]) := by decide +kernel

/-- Row 3: write-allocate, and the Shared copy of L2 invalidated. -/
theorem test_cWrite_miss :
    after (.cWrite 0x208 2 [0xAA, 0xBB]) cold (fun t => ((t.sys.line .l1d 0 0).state, (t.sys.line .l1d 0 0).dirty,
      (t.sys.line .l2 0 0).valid, (t.sys.line .l3 0 0).state, t.sys.mem.readByte 0x208)) =
    some (.modified, true, false, .exclusive, 0x3B) := by decide +kernel

/-- Row 13: a payload shorter than the size. -/
theorem test_cWrite_range : after (.cWrite 0x100 2 [0xAA]) cold (·.resp) = some (replyError .errRange) := by
  decide +kernel

/-- Row 10: an instruction fetch enters at L1I. -/
theorem test_cIfetch : after (.cIfetch 0x300 4) cold (fun t => (t.resp, counts t .l1i, counts t .l1d)) =
    some (some ⟨.ok, 0, [0x03, 0x0A, 0x11, 0x18]⟩, [0, 1, 0, 0], [0, 0, 0, 0]) := by decide +kernel

/-- A flush writes dirty data back to memory, through every level, and leaves no valid line (R147). -/
theorem test_cFlushall :
    after2 (.cWrite 0x208 2 [0xAA, 0xBB]) .cFlushall cold (fun t => (t.sys.mem.readByte 0x208, t.sys.mem.readByte 0x209,
      counts t .l1d, (t.sys.line .l1d 0 0).valid, (t.sys.line .l3 0 0).valid)) =
    some (0xAA, 0xBB, [0, 1, 0, 1], false, false) := by decide +kernel

/-- Row 5: the range rounds out to lines. -/
theorem test_cInvrange :
    after2 (.cWrite 0x208 2 [0xAA, 0xBB]) (.cInvrange 0x20F 2) cold (fun t => (t.sys.mem.readByte 0x209,
      counts t .l1d, counts t .l2, counts t .l3)) =
    some (0xBB, [0, 1, 0, 1], [0, 2, 0, 1], [2, 1, 0, 1]) := by decide +kernel

/-- Row 14. -/
theorem test_cInvrange_wraps :
    after (.cInvrange 0xFFFFFFFFFFFFFFF0 0x20) cold (·.resp) = some (replyError .errRange) := by decide +kernel

/-- Row 4: L1D and L3 both hold the line; and nothing is held after reset. -/
theorem test_cValidate :
    after2 (.cWrite 0x208 2 [0xAA, 0xBB]) .cValidate cold (·.resp) = some (replyWith 0) ∧
    after .cValidate cold (·.resp) = some (replyWith 1) := by decide +kernel

/-- Row 17. -/
theorem test_cRdstat : after2 (.cIfetch 0x300 4) (.cRdstat .l2 .misses) cold (·.resp) = some (replyWith 1) := by
  decide +kernel

/-! ## Stage commands (section 2.2) -/

/-- Rows 4 and 13. -/
theorem test_sInit : after (.sInit .d) cold (·.stages.d.life) = some .ready ∧
    after (.sInit .d) (busy [] [] []) (·.resp) = some (replyError .errState) := by decide +kernel

/-- Rows 3 and 4. -/
theorem test_sStart : after (.sStart .d) cold (·.resp) = some (replyError .errState) ∧
    after2 (.sInit .d) (.sStart .d) cold (fun t => (t.stages.d.life, t.events)) =
      some (.running, [.stageStarted .d]) := by decide +kernel

/-- Row 1, and an accepted submit. -/
theorem test_sSubmit :
    after (.sSubmit .d (fresh 0x47FF041F)) cold (fun t => (t.resp, t.stages.d.stats.backpressureEvents)) =
      some (some ⟨.rejected, 0, []⟩, 1) ∧
    after (.sSubmit .d (fresh 0x47FF041F)) (busy [] [] []) (fun t => (t.stages.d.queue, t.stages.d.freePermits)) =
      some ([fresh 0x47FF041F], 3) := by decide +kernel

/-- Rows 2 and 5. -/
theorem test_sStep_idle : after (.sStep .d) cold (·.resp) = some (replyError .errState) ∧
    after2 (.sStep .d) (.sStep .d) (busy [] [] []) (·.stages.d.stats.stallCycles) = some 2 := by decide +kernel

/-- Rows 9 and 10. -/
theorem test_sAdjust :
    after (.sAdjust .d 6) (busy [fresh 0, fresh 1] [] []) (fun t => (t.resp, t.stages.d.maxInFlight,
      t.stages.d.freePermits)) = some (replyWith 6, 6, 4) ∧
    after (.sAdjust .d 0) (busy [] [] []) (·.resp) = some (replyError .errRange) := by decide +kernel

/-- Row 8: a shrink whose draw is 0 takes back nothing. -/
theorem test_sAdjust_shrink : after (.sAdjust .d 1) (busy [fresh 0] [] []) (fun t => (t.resp, t.stages.d.maxInFlight)) =
    some (replyWith 4, 4) := by decide +kernel

/-- Row 12. -/
theorem test_sShutdown :
    after (.sShutdown .d) (busy [fresh 0, fresh 1] [] []) (fun t => (t.stages.d.life, t.stages.d.queue,
      t.stages.d.freePermits, t.events)) = some (.stopped, [], 4, [.stageStopped .d]) := by decide +kernel

/-- Row 11. -/
theorem test_sFlush :
    after2 (.sFlush .d) (.sStep .d) (busy [fresh 0, fresh 1] [] []) (fun t => (t.stages.d.queue, t.stages.d.freePermits,
      t.stages.d.flushFlag, t.stages.d.stats)) = some ([], 4, false, ⟨0, 0, 0, 0, 0⟩) := by decide +kernel

/-- A Running stage reads as 2, and its limit (R109). -/
theorem test_sRdstat : after (.sRdstat .d .life) (busy [] [] []) (·.resp) = some (replyWith 2) ∧
    after (.sRdstat .d .maxInFlight) (busy [] [] []) (·.resp) = some (replyWith 4) := by decide +kernel

/-! ## Fetch (section 2.3) -/

/-- Row 6, and the latest redirect wins (row 9). -/
theorem test_fRedirect : after (.fRedirect 0x10002) cold (·.resp) = some (replyError .errAlign) ∧
    after2 (.fRedirect 0x10020) (.fRedirect 0x10030) cold (·.fetch.branchTarget) = some (some 0x10030) := by
  decide +kernel

/-- Row 10: the iteration handles the flush, then applies the redirect. -/
theorem test_fFlushreq :
    after2 .fFlushreq (.sStep .f) { busy [] [] [] with fetch := { State.reset.fetch with branchTarget := some 0x10020 } }
      (fun t => (t.fetch.nextPC, t.fetch.branchTarget, t.stages.f.flushFlag, t.stages.f.stats.processed)) =
    some (0x10020, none, false, 0) := by decide +kernel

/-- Rows 7 and 8. -/
theorem test_fSetpc : after (.fSetpc 0x20000) (busy [] [] []) (·.resp) = some (replyError .errState) ∧
    after (.fSetpc 0x20000) cold (·.fetch.nextPC) = some 0x20000 := by decide +kernel

/-- The program counter after reset (R210). -/
theorem test_fRdstat : after (.fRdstat .nextPC) cold (·.resp) = some (replyWith 0x10000) := by decide +kernel

/-- Row 1: a fetch that misses. -/
theorem test_sStep_fetch :
    after (.sStep .f) (withCode (busy [] [] []) 0x1F 0x04 0xFF 0x47) (fun t => (t.fetch.fcMisses, t.fetch.nextPC,
      t.stages.d.queue, (t.fetch.fc.map (·.tag)))) =
    some (1, 0x10004, [fresh 0x47FF041F], [0x400, 0, 0, 0]) := by decide +kernel

/-- Row 3: a fetch at the end of a line prefetches the next one, with no counter. -/
theorem test_sStep_prefetch :
    after (.sStep .f) { busy [] [] [] with fetch := { State.reset.fetch with nextPC := 0x1000C } }
      (fun t => (t.fetch.fcMisses, t.fetch.nextPC, t.fetch.fc.map (·.wordValid))) =
    some (1, 0x10010, [[false, false, false, true], [true, false, false, false], [false, false, false, false],
      [false, false, false, false]]) := by decide +kernel

/-! ## Decode (section 2.4): an instruction word runs in the Decode worker -/

/-- What the word leaves at the tail of Execute's queue. -/
def decodes {α : Type} (i : Instr) (pc : Word) (f : InstrRecord → α) : Option (List α) :=
  after i (busy [freshRecord 0 pc] [] []) (fun t => t.stages.e.queue.map f)

/-- Row 1. -/
theorem test_nopWord : decodes .nopWord 0x10000 (fun r => (r.opcode, r.ra, r.rc, r.func, r.isLiteral)) =
    some [(0x11, 31, 31, 0x20, false)] := by decide +kernel

/-- Row 2. -/
theorem test_memory20 : decodes (.memory20 9 1 2 0x8000) 0 (fun r => (r.cls, r.opcode, r.disp, r.isLoad, r.accessSize)) =
    some [(.memory, 0x29, 0xFFFFFFFFFFFF8000, true, .b8)] := by decide +kernel

/-- Row 10. -/
theorem test_memory08 : decodes (.memory08 0 2 1 0x10) 0 (fun r => (r.ra, r.rb, r.disp, r.isLoad, r.isStore)) =
    some [(2, 1, 0x10, false, false)] := by decide +kernel

/-- Rows 3 and 8. -/
theorem test_branch30 :
    decodes (.branch30 9 1 0x1FFFFF) 0x10008 (fun r => (r.disp, r.branchTarget, r.isConditional)) =
      some [(0xFFFFFFFFFFFFFFFF, 0x10008, true)] ∧
    decodes (.branch30 0xD 1 0x100000) 0x400000 (·.branchTarget) = some [0x4] := by decide +kernel

/-- Row 5. -/
theorem test_operate10 : decodes (.operate10 0 1 (.reg 2 0) 0x20 3) 0 (fun r => (r.ra, r.rb, r.rc, r.isLiteral)) =
    some [(1, 2, 3, false)] := by decide +kernel

/-- Row 6. -/
theorem test_operate10_literal : decodes (.operate10 0 1 (.lit 5) 0x20 3) 0 (fun r => (r.func, r.rc, r.lit, r.isLiteral)) =
    some [(0x20, 3, 5, true)] := by decide +kernel

/-- An Operate word with a literal at the top of its range (R223). -/
theorem test_operate1C : decodes (.operate1C 1 (.lit 0xFF) 0x7F 3) 0 (fun r => (r.cls, r.opcode, r.lit, r.func)) =
    some [(.operate, 0x1C, 0xFF, 0x7F)] := by decide +kernel

/-- A FloatOp word with an 11-bit function (R224). -/
theorem test_floatOp14 : decodes (.floatOp14 2 1 2 0x7FF 3) 0 (fun r => (r.opcode, r.ra, r.rb, r.rc, r.func)) =
    some [(0x16, 1, 2, 3, 0x7FF)] := by decide +kernel

/-- Row 11. -/
theorem test_jump1A : decodes (.jump1A 31 26 2 1) 0 (fun r => (r.cls, r.rb, r.func, r.disp, r.isUnconditional)) =
    some [(.jump, 26, 2, 1, true)] := by decide +kernel

/-- Row 12, and the function zero-extended (R225). -/
theorem test_misc : decodes (.misc00 0 0 0x83) 0 (fun r => (r.cls, r.disp, r.func)) = some [(.misc, 0x83, 0)] ∧
    decodes (.misc18 0 0 0x8000) 0 (fun r => (r.opcode, r.disp)) = some [(0x18, 0x8000)] := by decide +kernel

/-- Row 7, for every reserved opcode: not valid, decoded, forwarded. -/
theorem test_invalid : ∀ i ∈ [Instr.invalid01 0, .invalid02 1, .invalid03 2, .invalid04 3, .invalid05 4, .invalid06 5,
      .invalid07 6, .invalid19 7, .invalid1B 8, .invalid1D 9, .invalid1E 10, .invalid1F 11],
    decodes i 0 (fun r => (r.valid, r.decoded, r.cls)) = some [(false, true, .invalid)] := by decide +kernel

/-! ## Execute (section 2.5) -/

/-- Rows 1 and 5. -/
theorem test_sStep_execute :
    after (.sStep .e) (withRegs (busy [] [decoded 0x40220403] []) 6 7 0) (fun t => (t.readInt 3,
      t.stages.w.queue.map (·.executed))) = some (13, [true]) ∧
    after (.sStep .e) (busy [] [decoded 0x40220C03] []) (fun t => (t.ex.executionExceptions, t.events,
      t.stages.w.queue.map (·.executed))) = some (1, [.executionException 0x10000], [false]) := by decide +kernel

/-- Rows 6 and 7. -/
theorem test_xComplete :
    after (.sStep .e) (withRegs (busy [] [decoded 0x4C220403] []) 6 7 0) (fun t => (t.readInt 3, t.ex.heavySeq,
      t.ex.pendingHeavy.map (·.1), t.stages.w.queue.length)) = some (0, 1, [0], 0) ∧
    after2 (.sStep .e) (.xComplete 0) (withRegs (busy [] [decoded 0x4C220403] []) 6 7 0) (fun t => (t.readInt 3,
      t.ex.pendingHeavy.length, t.stages.w.queue.map (·.executed))) = some (42, 0, [true]) := by decide +kernel

/-- Row 8. -/
theorem test_xComplete_absent : after (.xComplete 7) (busy [] [] []) (·.resp) = some (replyError .errState) := by
  decide +kernel

/-- A pending operation is counted (R256). -/
theorem test_xRdstat :
    after2 (.sStep .e) (.xRdstat .pendingHeavyCount) (busy [] [decoded 0x4C220403] []) (·.resp) =
      some (replyWith 1) := by decide +kernel

/-! ## Writeback (section 2.6) -/

/-- Rows 3 and 5. -/
theorem test_sStep_load :
    after (.sStep .w) (busy [] [] [loaded .b1 0x80]) (fun t => (t.readInt 3, t.wb.instructionsCommitted)) =
      some (0xFFFFFFFFFFFFFF80, 1) ∧
    after (.sStep .w) (busy [] [] [{ loaded .b8 5 with ra := 31 }]) (fun t => (t.ints, t.wb.instructionsCommitted)) =
      some (startRegs, 1) := by decide +kernel

/-- Rows 6 and 7. -/
theorem test_sStep_branch :
    after (.sStep .w) (busy [] [] [branchAt false 0x10020]) (fun t => (t.wb.branchesNotTaken, t.fetch.branchTarget,
      t.ctrl.pstate)) = some (1, none, .running) ∧
    after (.sStep .w) (busy [] [] [branchAt true 0x10020]) (fun t => (t.wb.branchRedirects, t.fetch.branchTarget,
      t.ctrl.pstate, t.ctrl.pendingFlush)) = some (1, some 0x10020, .flushing, 4) := by decide +kernel

/-- Row 2. -/
theorem test_sStep_gate :
    after (.sStep .w) (busy [] [] [fresh 0x47FF041F]) (fun t => (t.wb.commitFailures, t.stages.w.stats.stallCycles,
      t.wb.instructionsCommitted, t.stages.w.stats.processed)) = some (1, 1, 0, 1) := by decide +kernel

/-- Row 10. -/
theorem test_sStep_exception :
    after (.sStep .w) (busy [] [] [raised 0x11]) (fun t => (t.wb.excLog.map (fun e => (e.vector, e.pc, e.stamp)),
      t.ctrl.pstate, t.ctrl.excTicks, t.wb.instructionsCommitted)) =
    some ([(0x11, 0x10000, 1)], .exception, [0], 0) := by decide +kernel

/-- Commits are counted (R276). -/
theorem test_wRdstat : after2 (.sStep .w) (.wRdstat .instructionsCommitted) (busy [] [] [executed 0x47FF041F]) (·.resp) =
    some (replyWith 1) := by decide +kernel

/-! ## Controller (section 2.7) -/

/-- Rows 2 and 3. -/
theorem test_kStart :
    after .kStart cold (fun t => (t.ctrl.pstate, t.events)) =
      some (.starting, [.stageStarted .w, .stageStarted .e, .stageStarted .d, .stageStarted .f]) ∧
    after2 .kStart .kStart cold (·.resp) = some (replyError .errState) := by decide +kernel

/-- Rows 1 and 12. -/
theorem test_kStop : after .kStop cold (·.resp) = some (replyError .errState) ∧
    after .kStop (busy [] [] []) (fun t => (t.ctrl.pstate, t.events)) =
      some (.stopping, [.stageStopped .f, .stageStopped .d, .stageStopped .e, .stageStopped .w]) := by decide +kernel

/-- Row 6. -/
theorem test_kFlush :
    after2 .kFlush (.sStep .f) (busy [] [] []) (fun t => (t.ctrl.pstate, t.ctrl.pendingFlush)) = some (.flushing, 3) ∧
    ((runInstrs [.kFlush, .sStep .f, .sStep .d, .sStep .e, .sStep .w] (busy [] [] [])).map
      (fun t => (t.ctrl.pstate, t.ctrl.pendingFlush))) = some (.running, 0) := by decide +kernel

/-- Rows 8 and 11. -/
theorem test_kException :
    after (.kException 3 0x10000) (busy [] [] []) (fun t => (t.ctrl.pstate, t.ctrl.excTicks)) = some (.exception, [0]) ∧
    after (.kException 3 0) cold (fun t => (t.ctrl.pstate, t.ctrl.excTicks)) = some (.stopped, [0]) := by decide +kernel

/-- Row 1, and a snapshot while Running (R296). -/
theorem test_kTick : after .kTick cold (·.resp) = some (replyError .errState) ∧
    after .kTick (busy [] [] []) (fun t => (t.ctrl.tick, t.events.length)) = some (1, 1) := by decide +kernel

/-- Row 9. -/
theorem test_kAdvance :
    after2 (.kException 3 0x10000) .kAdvance (busy [] [] []) (fun t => (t.ctrl.pstate, t.ctrl.pendingFlush,
      t.ctrl.recovering)) = some (.flushing, 4, true) ∧
    after .kAdvance (busy [] [] []) (·.resp) = some (replyError .errState) := by decide +kernel

/-- Row 6: Running reads as 2. -/
theorem test_kRdstate : after (.kRdstate .pstate) (busy [] [] []) (·.resp) = some (replyWith 2) := by decide +kernel

/-- A reset discards dirty lines without a writeback (R340). -/
theorem test_reset :
    after2 (.cWrite 0x208 2 [0xAA, 0xBB]) .reset cold (fun t => (t.sys.mem.readByte 0x208,
      decide (t.sys.caches = State.reset.sys.caches))) = some (0x3B, true) ∧
    after .reset (busy [fresh 0] [] []) (fun t => (t.stages.d.life, t.ctrl.pstate)) = some (.stopped, .stopped) := by
  decide +kernel

/-! ## Witnesses: states and operands that meet the hypotheses of the statements

Each theorem is named after its statement in Certificates/Slice0/Obligations.lean. -/

/-- A result with a state is a next state. -/
theorem next_of {r : Result} (h : (nextOf r).isSome = true) : ∃ t, r = .next t := by
  cases r with
  | next t => exact ⟨t, rfl⟩
  | fault e => cases e
  | refused e => simp [nextOf] at h

/-- Whether an execution is done. -/
def isDone : UnitOutcome × State → Bool
  | (.done _, _) => true
  | (.fault, _) => false

/-- A done execution has a result. -/
theorem done_of {x : UnitOutcome × State} (h : isDone x = true) : ∃ r s, x = (.done r, s) := by
  rcases x with ⟨_ | _, s⟩
  · exact ⟨_, s, rfl⟩
  · simp [isDone] at h

/-- A faulted execution. -/
theorem fault_of {x : UnitOutcome × State} (h : isDone x = false) : ∃ s, x = (.fault, s) := by
  rcases x with ⟨_ | _, s⟩
  · simp [isDone] at h
  · exact ⟨s, rfl⟩

/-- A command packet of a command word alone. -/
def cmd (cw : CWord) : Packet := plainPacket cw 0 0

/-- A state with a packet first at the port and one draw of 0. -/
def asked (s : State) (p : Packet) : State := s.withCommand p

/-- A machine in the middle of a run: an instruction in each queue, a heavy operation pending, a PC at the compilation threshold, a
logged exception, a pending redirect, and a worker step asked for. -/
def working : State :=
  asked { busy [fresh 0x47FF041F] [decoded 0x40220403] [executed 0x47FF041F] with
    fetch := { State.reset.fetch with branchTarget := some 0x10020 }
    ex := { resetExec with
      pendingHeavy := [(0, decoded 0x4C220403)], heavySeq := 1,
      tier := [(0x10000, ⟨5, some .profile, true⟩)], compilationTriggers := 1 }
    wb := { resetWb with excLog := [⟨3, 0x10000, .default, 1⟩], excSeq := 1 } } (cmd 0x1302)

theorem working_steps : ∃ t, step working = .next t := next_of (by decide +kernel)

theorem cold_good : cold.sys.good cold.cfg := by
  refine ⟨by decide +kernel, fun l => ?_⟩
  cases l <;> simp only [CacheLevel.good, CacheSet.good, CacheSet.unique, CacheSet.stamped, CacheLine.consistent,
    CacheLine.shaped] <;> decide +kernel

/-- Where no line of a level is valid, it holds no address. -/
theorem copyAt_none {c : Config} {m : MemSys} {l : Level} (h : ∀ st ∈ (m.level l).sets, ∀ ln ∈ st.ways, ln.valid = false)
    (a : Word) : m.copyAt c l a = none := by
  simp only [MemSys.copyAt, List.find?_eq_none]
  intro ln hln
  have hv : ln.valid = false := by
    simp only [MemSys.setAt, CacheLevel.setAt, List.getD_eq_getElem?_getD] at hln
    cases hi : (m.level l).sets[c.indexOf l a]? with
    | none => simp [hi, default, instInhabitedCacheSet.default] at hln
    | some st =>
      simp only [hi, Option.getD_some] at hln
      exact h st (List.mem_of_getElem? hi) ln hln
  simp [CacheLine.hasTag, hv]

theorem cold_coherent : cold.sys.coherent cold.cfg := by
  intro l _ a ln h
  rw [copyAt_none (by cases l <;> decide +kernel)] at h
  cases h

theorem witness_DecodeOfEncode :
    (Instr.cWrite 0 16 (List.replicate 16 7)).wellFormed vectorConfig = true ∧
    (Instr.operate10 1 31 (.reg 31 1) 0x20 31).wellFormed vectorConfig = true := by decide

theorem witness_ReservedWordRefused :
    cold.cfg.ok = true ∧ (asked cold (cmd 0x6000)).turn = some (.command (cmd 0x6000)) ∧
    isCommandWord 0x6000 = false ∧ isCommandWord 0x3105 = false ∧ isCommandWord 0x0101 = false := by decide +kernel

theorem witness_StepRunsDecoded_command :
    (asked working (cmd 0x5400)).cfg.ok = true ∧ (asked working (cmd 0x5400)).turn = some (.command (cmd 0x5400)) ∧
    decodePacket (cmd 0x5400) = .ok .kTick := ⟨by decide +kernel, by decide +kernel, rfl⟩

theorem witness_StepRunsDecoded_agent :
    (busy [] [] []).cfg.ok = true ∧ (busy [] [] []).turn = some (.agent (.sStep .f)) := by decide +kernel

theorem witness_DecodeStepRunsWord : working.decodeHead = some 0x47FF041F := by decide +kernel

theorem witness_PlacedInstructionRuns :
    working.cfg.ok = true ∧ decodeTableWord 16 0x5000 = some .kStart ∧ decodeTableWord 16 0x1301 = some (.sStep .d) ∧
    decodeTableWord 32 0xA4228000 = some (.memory20 9 1 2 0x8000) := by decide +kernel

theorem witness_AnyEnabledMayGo :
    Instr.sStep .w ∈ working.enabled ∧ Instr.xComplete 0 ∈ working.enabled ∧ Instr.kTick ∈ working.enabled ∧
    Instr.kAdvance ∉ working.enabled ∧
    Instr.kAdvance ∈ ({ working with ctrl := { working.ctrl with pstate := .exception } } : State).enabled ∧
    working.port = [cmd 0x1302] := by decide +kernel

theorem witness_StepKeepsHierarchy : working.sys.good working.cfg ∧ ∃ t, step working = .next t :=
  ⟨cold_good, working_steps⟩

theorem witness_StepKeepsCoherence :
    working.cfg.dataPath = .hierarchy ∧ working.sys.good working.cfg ∧ working.sys.coherent working.cfg ∧
    ∃ t, step working = .next t := ⟨rfl, cold_good, cold_coherent, working_steps⟩

theorem witness_StepKeepsArbiter : working.arbiterGood ∧ ∃ t, step working = .next t := by
  refine ⟨⟨fun id => ?_, ?_⟩, working_steps⟩
  · cases id <;> simp only [Stage.good] <;> decide +kernel
  · refine ⟨by decide +kernel, by decide +kernel, by decide +kernel, fun id => ?_, by decide +kernel⟩
    cases id <;> decide +kernel

theorem witness_StepKeepsFetch : working.fetchGood ∧ ∃ t, step working = .next t := by
  refine ⟨⟨by decide +kernel, fun t h => ?_, by decide +kernel, ?_⟩, working_steps⟩
  · cases h; decide
  · simp only [FcEntry.good]; decide +kernel

theorem working_execGood : working.execGood := by
  unfold State.execGood; decide +kernel

theorem witness_StepKeepsExecute : working.execGood ∧ ∃ t, step working = .next t := ⟨working_execGood, working_steps⟩

theorem witness_StepKeepsLog : working.logGood ∧ ∃ t, step working = .next t :=
  ⟨by unfold State.logGood; decide +kernel, working_steps⟩

theorem witness_NothingWritesThese : ∃ t, exec (.sStep .w) working = .next t := next_of (by decide +kernel)

/-- A load whose destination is register 31, and a slot of register 31 that holds another value. -/
theorem witness_RegisterThirtyOne :
    (decoded 0xA7FF0100).ra = 31 ∧ (decoded 0xA7FF0100).isLoad = true ∧
    (cold.withSlot31 5 6).ints[31] = 5 ∧ (cold.withSlot31 5 6).readInt 31 = 0 := by decide +kernel

theorem witness_ControllerTransitions : ∃ t, exec .kFlush working = .next t ∧ working.ctrl.pstate = .running :=
  (next_of (by decide +kernel)).imp (fun _ h => ⟨h, rfl⟩)

theorem witness_DecomposeCompose : vectorConfig.ok = true := by decide +kernel

/-- The last byte of a line, and a whole line. -/
theorem witness_ReadsReturnFirstCopy :
    cold.cfg.ok = true ∧ cold.sys.good cold.cfg ∧ cold.sys.coherent cold.cfg ∧
    cold.cfg.legal 0x10F (1 : Word).toNat = true ∧ cold.cfg.legal 0x100 (16 : Word).toNat = true :=
  ⟨by decide +kernel, cold_good, cold_coherent, by decide +kernel, by decide +kernel⟩

/-- A hierarchy whose L1D set 0 holds two valid lines, stamped 3 and 2 (section 2.1 row 2). -/
def fullSet : MemSys :=
  let ln (tag : Word) (stamp : Nat) : CacheLine := ⟨tag, true, false, .shared, stamp, List.replicate 16 0⟩
  cold.sys.putSet .l1d 0 ⟨[ln 8 3, ln 9 2], 3⟩

/-- The same with both lines dirty and Modified. -/
def dirtySet : MemSys :=
  let ln (tag : Word) (stamp : Nat) : CacheLine := ⟨tag, true, true, .modified, stamp, List.replicate 16 7⟩
  cold.sys.putSet .l1d 0 ⟨[ln 8 3, ln 9 2], 3⟩

theorem fullSet_good : fullSet.good vectorConfig := by
  refine ⟨by decide +kernel, fun l => ?_⟩
  cases l <;> simp only [CacheLevel.good, CacheSet.good, CacheSet.unique, CacheSet.stamped, CacheLine.consistent,
    CacheLine.shaped] <;> decide +kernel

theorem dirtySet_good : dirtySet.good vectorConfig := by
  refine ⟨by decide +kernel, fun l => ?_⟩
  cases l <;> simp only [CacheLevel.good, CacheSet.good, CacheSet.unique, CacheSet.stamped, CacheLine.consistent,
    CacheLine.shaped] <;> decide +kernel

/-- The clauses on one level: a hit on the last byte of a clean and of a dirty line; a miss where a way is invalid, one with a
clean victim and one with a dirty victim. -/
theorem witness_ReadsReturnFirstCopy_level :
    vectorConfig.ok = true ∧ vectorConfig.legal 0x12F 1 = true ∧ vectorConfig.legal 0x140 16 = true ∧
    fullSet.hitsIn vectorConfig .l1d 0x12F 1 ∧ dirtySet.hitsIn vectorConfig .l1d 0x10F 0 ∧
    (∀ w < vectorConfig.assoc.get .l1d, ¬ cold.sys.hitsIn vectorConfig .l1d 0x140 w) ∧
    (∀ w < vectorConfig.assoc.get .l1d, ¬ fullSet.hitsIn vectorConfig .l1d 0x140 w) ∧
    (fullSet.line .l1d 0 (victim vectorConfig .l1d 0 fullSet).1).dirty = false ∧
    (∀ w < vectorConfig.assoc.get .l1d, ¬ dirtySet.hitsIn vectorConfig .l1d 0x140 w) ∧
    (dirtySet.line .l1d 0 (victim vectorConfig .l1d 0 dirtySet).1).dirty = true := by
  unfold MemSys.hitsIn; decide +kernel

theorem witness_WriteSetsCurrent :
    cold.cfg.ok = true ∧ cold.sys.good cold.cfg ∧ cold.sys.coherent cold.cfg ∧
    cold.cfg.legal 0x10C (4 : Word).toNat = true ∧ [0xEF, 0xBE, 0xAD, (0xDE : Byte)].length = (4 : Word).toNat :=
  ⟨by decide +kernel, cold_good, cold_coherent, by decide +kernel, by decide⟩

/-- The clauses on one level: the hits and misses of `witness_ReadsReturnFirstCopy_level`, with 1 and 16 bytes. -/
theorem witness_WriteSetsCurrent_level :
    fullSet.good vectorConfig ∧ dirtySet.good vectorConfig ∧ cold.sys.good vectorConfig ∧
    vectorConfig.legal 0x12F [(5 : Byte)].length = true ∧
    vectorConfig.legal 0x140 (List.replicate 16 (5 : Byte)).length = true :=
  ⟨fullSet_good, dirtySet_good, cold_good, by decide +kernel, by decide +kernel⟩

/-- One byte past the line, no byte, more than a line; and a payload that is too short. -/
theorem witness_IllegalAccessRefused :
    cold.cfg.legal 0x10F (2 : Word).toNat = false ∧ cold.cfg.legal 0x100 (0 : Word).toNat = false ∧
    cold.cfg.legal 0x100 (17 : Word).toNat = false ∧
    cold.cfg.legal 0x100 (16 : Word).toNat = true ∧ [(1 : Byte)].length ≠ (16 : Word).toNat := by decide +kernel

theorem witness_FlushAllWritesBack :
    cold.cfg.ok = true ∧ cold.sys.good cold.cfg ∧ cold.sys.coherent cold.cfg :=
  ⟨by decide +kernel, cold_good, cold_coherent⟩

/-- The clauses on one way: the last way of a set invalid, clean and dirty. -/
theorem witness_FlushAllWritesBack_way :
    vectorConfig.ok = true ∧ cold.sys.good vectorConfig ∧ fullSet.good vectorConfig ∧ dirtySet.good vectorConfig ∧
    0 < vectorConfig.numSets .l1d ∧ 1 < vectorConfig.assoc.get .l1d ∧
    (cold.sys.line .l1d 0 1).valid = false ∧
    ((fullSet.line .l1d 0 1).valid = true ∧ (fullSet.line .l1d 0 1).dirty = false) ∧
    ((dirtySet.line .l1d 0 1).valid = true ∧ (dirtySet.line .l1d 0 1).dirty = true) :=
  ⟨by decide +kernel, cold_good, fullSet_good, dirtySet_good, by decide +kernel, by decide +kernel, by decide +kernel,
    by decide +kernel, by decide +kernel⟩

theorem witness_FlushAllTwice :
    cold.cfg.ok = true ∧ cold.sys.good cold.cfg ∧ ∃ t, exec .cFlushall cold = .next t :=
  ⟨by decide +kernel, cold_good, next_of (by decide +kernel)⟩

/-- The clauses: a range that ends one byte past 2^64, and one that ends at 2^64. -/
theorem witness_InvalidateRange :
    ((17 : Word) ≠ 0 ∧ 2 ^ 64 < (0xFFFFFFFFFFFFFFF0 : Word).toNat + (17 : Word).toNat) ∧
    ((16 : Word) ≠ 0 ∧ (0xFFFFFFFFFFFFFFF0 : Word).toNat + (16 : Word).toNat ≤ 2 ^ 64) ∧
    cold.cfg.ok = true ∧ cold.sys.good cold.cfg ∧ cold.sys.coherent cold.cfg :=
  ⟨by decide, by decide, by decide +kernel, cold_good, cold_coherent⟩

/-- Clean lines in a range of `C.INVRANGE`, and one outside it: 0x100 to 0x10F of the lines at 0x100 and 0x120. -/
theorem witness_InvalidateRange_clean :
    (16 : Word) ≠ 0 ∧ (0x100 : Word).toNat + (16 : Word).toNat ≤ 2 ^ 64 ∧ vectorConfig.ok = true ∧
    fullSet.good vectorConfig ∧
    vectorConfig.lineAddr 0x100 = 0x100 ∧ vectorConfig.lineAddr (0x100 + 16 - 1) = 0x100 ∧
    (∀ l, ∀ st ∈ (fullSet.level l).sets, ∀ ln ∈ st.ways, ln.dirty = false) ∧
    vectorConfig.compose .l1d (fullSet.line .l1d 0 0).tag 0 0 = 0x100 ∧ (fullSet.line .l1d 0 0).valid = true ∧
    vectorConfig.compose .l1d (fullSet.line .l1d 0 1).tag 0 0 = 0x120 ∧ (fullSet.line .l1d 0 1).valid = true :=
  ⟨by decide, by decide, by decide +kernel, fullSet_good, by decide +kernel, by decide +kernel,
    fun l => by cases l <;> decide +kernel, by decide +kernel, by decide +kernel, by decide +kernel, by decide +kernel⟩

/-- The configuration with random replacement in L1D. -/
def randomConfig : Config := { vectorConfig with repl := ⟨.lru, .random, .lru, .lru⟩ }

theorem witness_VictimChoice :
    ((cold.sys.setAt .l1d 0).ways.length = vectorConfig.assoc.get .l1d ∧ 1 ≤ vectorConfig.assoc.get .l1d ∧
      ∃ w < vectorConfig.assoc.get .l1d, (cold.sys.line .l1d 0 w).valid = false) ∧
    ((fullSet.setAt .l1d 0).ways.length = vectorConfig.assoc.get .l1d ∧ vectorConfig.repl.get .l1d = .lru ∧
      ∀ w < vectorConfig.assoc.get .l1d, (fullSet.line .l1d 0 w).valid = true) ∧
    ((fullSet.setAt .l1d 0).ways.length = randomConfig.assoc.get .l1d ∧ randomConfig.repl.get .l1d = .random ∧
      ∀ w < randomConfig.assoc.get .l1d, (fullSet.line .l1d 0 w).valid = true) := by decide +kernel

/-- The last free permit and the last place; and a stage that is not Running. -/
theorem witness_SubmitRule :
    (busy [fresh 0, fresh 0, fresh 0] [] []).accepts .d ∧ ¬ (busy [fresh 0, fresh 0, fresh 0, fresh 0] [] []).accepts .d ∧
    ¬ cold.accepts .d := by unfold State.accepts; decide +kernel

theorem witness_AdmissionProperty :
    let s := busy [] [] []
    (s.stages.get .d).life = .running ∧ (s.stages.get .d).queue = [] ∧
    (s.stages.get .d).freePermits = (s.stages.get .d).maxInFlight ∧
    (List.replicate 4 (fresh 0)).length = (s.stages.get .d).maxInFlight ∧
    (s.stages.get .d).maxInFlight ≤ s.cfg.queueCap.get .d := by decide +kernel

/-- The invariant of the second clause, and a step. -/
theorem witness_AdmissionProperty_step : working.arbiterGood ∧ ∃ t, step working = .next t := witness_StepKeepsArbiter

theorem witness_InitStage :
    ((busy [] [] []).stages.get .e).life = .running ∧ (cold.stages.get .e).life ≠ .running := by decide +kernel

/-- A state whose Decode stage is Ready. -/
def readyState : State := { cold with stages := cold.stages.set .d { cold.stages.d with life := .ready } }

theorem witness_StageCommands :
    (readyState.stages.get .d).life = .ready ∧ (cold.stages.get .d).life = .stopped ∧
    ((busy [] [] []).stages.get .d).life = .running := by decide +kernel

/-- A Stopped stage; no permits asked for; the limit as it is; one less than the limit. -/
theorem witness_AdjustGate :
    (cold.stages.get .d).life = .stopped ∧
    (((busy [fresh 0] [] []).stages.get .d).life ≠ .stopped ∧ (4 : Word) ≠ 0 ∧ (3 : Word) ≠ 0 ∧
      ((busy [fresh 0] [] []).stages.get .d).maxInFlight ≤ (4 : Word).toNat ∧
      (3 : Word).toNat < ((busy [fresh 0] [] []).stages.get .d).maxInFlight) := by decide +kernel

/-- A stage with a flush to handle. -/
def flushing : State := { working with
  stages := working.stages.set .w { working.stages.w with flushFlag := true }
  ctrl := { working.ctrl with pstate := .flushing, pendingFlush := 1 } }

theorem witness_WorkerIdleAndFlush :
    (cold.stages.get .w).life ≠ .running ∧
    ((flushing.stages.get .w).life = .running ∧ (flushing.stages.get .w).flushFlag = true) ∧
    (((busy [] [] []).stages.get .w).life = .running ∧ ((busy [] [] []).stages.get .w).flushFlag = false ∧
      ((busy [] [] []).stages.get .w).queue = [] ∧ 0 < ((busy [] [] []).stages.get .w).freePermits) := by decide +kernel

/-- Execute with room; and with none. -/
theorem witness_DecodeWordForwards :
    encode .nopWord = .word 0x47FF041F ∧ encode (.branch30 9 1 0x1FFFFF) = .word 0xE43FFFFF ∧
    working.worksOn .d (fresh 0x47FF041F) [] ∧ working.accepts .e ∧
    ¬ (busy [fresh 0] [fresh 0, fresh 0, fresh 0, fresh 0] []).accepts .e := by
  unfold State.worksOn State.accepts; decide +kernel

/-- A state of the Plain variant. -/
def plain (s : State) : State := { s with cfg := { s.cfg with execVariant := .plain } }

theorem witness_ExecuteInline :
    let s := plain (busy [] [decoded 0x40220403] [])
    let r := decoded 0x40220403
    s.worksOn .e r [] ∧ s.accepts .w ∧ s.cfg.execVariant = .plain ∧ r.valid = true ∧ r.decoded = true ∧
    s.cfg.costClass r.cls r.opcode r.func ≠ .heavy := by unfold State.worksOn State.accepts; decide +kernel

/-- A Writeback that has no room. -/
theorem witness_ExecuteInline_dropped :
    let full := [fresh 0, fresh 0, fresh 0, fresh 0]
    (plain (busy [] [decoded 0x40220403] full)).worksOn .e (decoded 0x40220403) [] ∧
    ¬ (plain (busy [] [decoded 0x40220403] full)).accepts .w := by unfold State.worksOn State.accepts; decide +kernel

theorem witness_ExecuteInline_done : ∃ res s2, execUnit (decoded 0x40220403) (busy [] [] []) = (.done res, s2) :=
  done_of (by decide +kernel)

theorem witness_ExecuteInline_fault : ∃ s2, execUnit (decoded 0x40220C03) (busy [] [] []) = (.fault, s2) :=
  fault_of (by decide +kernel)

theorem witness_ExecuteInline_unexecuted :
    (busy [] [decoded 0x04000000] []).worksOn .e (decoded 0x04000000) [] ∧
    (busy [] [decoded 0x04000000] []).accepts .w ∧ (decoded 0x04000000).valid = false ∧
    (fresh 0x47FF041F).decoded = false := by unfold State.worksOn State.accepts; decide +kernel

theorem witness_NopHasNoEffect : (decoded 0x47FF041F).raw = 0x47FF041F ∧ vectorConfig.ok = true := by decide +kernel

theorem witness_NopThroughPipeline :
    let s := busy [fresh 0x47FF041F] [] []
    let r := fresh 0x47FF041F
    s.cfg.ok = true ∧ s.cfg.classOfOpcode 0x11 = .operate ∧ s.worksOn .d r [] ∧ r.raw = 0x47FF041F ∧ r.valid = true ∧
    s.accepts .e ∧ s.stages.e.queue = [] ∧ s.stages.e.flushFlag = false ∧
    s.accepts .w ∧ s.stages.w.queue = [] ∧ s.stages.w.flushFlag = false := by
  unfold State.worksOn State.accepts; decide +kernel

theorem witness_HeavyOperations_dispatch :
    let s := plain (busy [] [decoded 0x4C220403] [])
    let r := decoded 0x4C220403
    s.worksOn .e r [] ∧ s.cfg.execVariant = .plain ∧ r.valid = true ∧ r.decoded = true ∧
    s.cfg.costClass r.cls r.opcode r.func = .heavy := by unfold State.worksOn; decide +kernel

theorem witness_HeavyOperations_complete :
    working.execGood ∧ ((0 : Word).toNat, decoded 0x4C220403) ∈ working.ex.pendingHeavy ∧
    ∃ res s2, execUnit (decoded 0x4C220403) { working with ex :=
      { working.ex with pendingHeavy := working.ex.pendingHeavy.filter (fun p => p.1 != (0 : Word).toNat) } } =
        (.done res, s2) :=
  ⟨working_execGood, by decide +kernel, done_of (by decide +kernel)⟩

/-- A pending operation whose execution faults: a multiply function that XU1 does not know. -/
def faulty : State :=
  { working with ex := { working.ex with pendingHeavy := [(0, decoded 0x4C220C03)] } }

theorem witness_HeavyOperations_fault :
    faulty.execGood ∧ ((0 : Word).toNat, decoded 0x4C220C03) ∈ faulty.ex.pendingHeavy ∧
    ∃ s2, execUnit (decoded 0x4C220C03) { faulty with ex :=
      { faulty.ex with pendingHeavy := faulty.ex.pendingHeavy.filter (fun p => p.1 != (0 : Word).toNat) } } =
        (.fault, s2) :=
  ⟨by unfold State.execGood; decide +kernel, by decide +kernel, fault_of (by decide +kernel)⟩

theorem witness_HeavyOperations_absent : ∀ p ∈ working.ex.pendingHeavy, p.1 ≠ (1 : Word).toNat := by decide +kernel

/-- A PC visited some times in a mode, and one draw. -/
def visited (n : Nat) (m : Option ExecMode) (draw : Nat) : State :=
  { busy [] [] [] with
    ex := { resetExec with tier := [(0x10000, ⟨n, m, false⟩)] }
    draws := ⟨[draw, 1, 0], 0⟩ }

/-- The visits where the modes meet (thresholds 3 and 5), with a mode change and with a compilation request. -/
theorem witness_TierModes :
    (visited 1 (some .interpret) 0).execGood ∧ (visited 2 (some .interpret) 0).execGood ∧
    (visited 4 (some .profile) 0).execGood ∧
    ((visited 2 (some .interpret) 0).tierStep (decoded 0x40220403)).1 = .profile ∧
    ((visited 4 (some .profile) 0).tierStep (decoded 0x40220403)).2.events = [.compilationRequested 0x10000] ∧
    ((visited 2 (some .interpret) 0).tierStep (decoded 0x40220403)).2.events =
      [.modeChanged 0x10000 .interpret .profile] ∧
    ((visited 4 (some .profile) 0).tierStep (decoded 0x40220403)).2.ex.compilationTriggers = 1 ∧
    ((visited 4 (some .profile) 1).tierStep (decoded 0x40220403)).1 = .compiled := by
  unfold State.execGood; decide +kernel

theorem witness_HybridPaths :
    ((visited 1 none 0).tierStep (decoded 0x40220403)).1 = .interpret ∧
    ((visited 2 none 0).tierStep (decoded 0x40220403)).1 = .profile ∧
    ((visited 4 none 1).tierStep (decoded 0x40220403)).1 = .compiled ∧
    ((visited 4 none 1).tierStep (decoded 0x40220403)).2.nextDraw % 2 = 1 ∧
    isDone (execUnit (decoded 0x40220403) ((visited 4 none 1).tierStep (decoded 0x40220403)).2) = true ∧
    isDone (execUnit (decoded 0x40220C03) ((visited 4 none 1).tierStep (decoded 0x40220C03)).2) = false ∧
    (({ visited 4 none 1 with draws := ⟨[1, 0], 0⟩ } : State).tierStep (decoded 0x40220403)).2.nextDraw % 2 ≠ 1 := by
  decide +kernel

/-- A step of the Hybrid variant; and the costs that part the interpreted path, with an execution that faults. -/
theorem witness_HybridPaths_step :
    (busy [] [decoded 0x40220403] []).worksOn .e (decoded 0x40220403) [] ∧
    (busy [] [decoded 0x40220403] []).cfg.execVariant = .hybrid ∧ (decoded 0x40220403).valid = true ∧
    (decoded 0x40220403).decoded = true ∧
    vectorConfig.costClass .operate 0x13 0x20 = .heavy ∧ vectorConfig.costClass .operate 0x10 0x20 ≠ .heavy ∧
    vectorConfig.costClass .operate 0x10 0x60 ≠ .heavy ∧
    isDone (execUnit (decoded 0x40220403) (busy [] [] [])) = true ∧
    isDone (execUnit (decoded 0x40220C03) (busy [] [] [])) = false := by unfold State.worksOn; decide +kernel

/-- The state with data accesses straight to main memory. -/
def direct (s : State) : State := { s with cfg := { s.cfg with dataPath := .memory } }

/-- The two clauses of `DATA_PATH` = Memory; and a load that the hierarchy refuses, in a state where register 31 is the base. -/
theorem witness_LoadStoreAccess_memory :
    let l := decoded 0xA47F0100
    let w := decoded 0xB43F0100
    (direct cold).cfg.dataPath = .memory ∧ (direct cold).sys.mem.wf = true ∧
    isDone (execUnit l (direct cold)) = true ∧ isDone (execUnit w (direct cold)) = true ∧
    l.isLoad = true ∧ w.isLoad = false ∧ w.isStore = true ∧ (direct cold).cfg.floatDestOf l.opcode = false ∧
    cold.cfg.legal 0x10C (decoded 0xA47F010C).accessSize.bytes = false := by decide +kernel

/-- An 8-byte load and an 8-byte store at 0x100. -/
theorem witness_LoadStoreAccess :
    let l := decoded 0xA47F0100
    let w := decoded 0xB43F0100
    cold.cfg.dataPath = .hierarchy ∧
    (l.cls = .memory ∧ l.raw ≠ 0x47FF041F ∧ l.opcode = 0x29 ∧ l.isLoad = true ∧ l.accessSize = .b8 ∧
      cold.cfg.legal (cold.readInt l.rb + l.disp) l.accessSize.bytes = true ∧ isDone (execUnit l cold) = true) ∧
    (w.cls = .memory ∧ w.raw ≠ 0x47FF041F ∧ w.opcode = 0x2D ∧ w.isLoad = false ∧ w.isStore = true ∧
      w.accessSize = .b8 ∧ cold.cfg.legal (cold.readInt w.rb + w.disp) w.accessSize.bytes = true ∧
      isDone (execUnit w cold) = true) := by decide +kernel

theorem witness_CommitGate :
    (busy [] [] [decoded 0x47FF041F]).worksOn .w (decoded 0x47FF041F) [] ∧
    ¬ ((decoded 0x47FF041F).valid = true ∧ (decoded 0x47FF041F).decoded = true ∧
      (decoded 0x47FF041F).executed = true) := by unfold State.worksOn; decide +kernel

/-- A load, and an instruction that is none. -/
theorem witness_CommitLoadsAndOthers : ∀ r ∈ [loaded .b1 0x80, executed 0x47FF041F],
    (busy [] [] [r]).worksOn .w r [] ∧ r.valid = true ∧ r.decoded = true ∧ r.executed = true ∧ r.hasException = false ∧
    r.cls ≠ .branch ∧ r.cls ≠ .jump := by unfold State.worksOn; decide +kernel

/-- Not taken, taken to the next instruction, taken elsewhere, a jump, and a submitted branch that is a load too. -/
theorem witness_CommitBranches : ∀ r ∈ [branchAt false 0x10020, branchAt true 0x1000C, branchAt true 0x10020,
      { executed 0x6BFA8001 with jumpTarget := 0x20003 },
      { branchAt true 0x10020 with isLoad := true, accessSize := .b1, loadValue := 0x80 }],
    (busy [] [] [r]).worksOn .w r [] ∧ r.valid = true ∧ r.decoded = true ∧ r.executed = true ∧ r.hasException = false ∧
    (r.cls = .branch ∨ r.cls = .jump) := by unfold State.worksOn; decide +kernel

theorem witness_ExceptionAtWriteback :
    (busy [] [] [raised 0x11]).worksOn .w (raised 0x11) [] ∧ (raised 0x11).valid = true ∧ (raised 0x11).decoded = true ∧
    (raised 0x11).executed = true ∧ (raised 0x11).hasException = true := by unfold State.worksOn; decide +kernel

theorem witness_WritebackEndsOnce :
    working.worksOn .w (executed 0x47FF041F) [] ∧ ∃ t, exec (.sStep .w) working = .next t :=
  ⟨by unfold State.worksOn; decide +kernel, next_of (by decide +kernel)⟩

/-- An aligned target and the next value, in either lifecycle state. -/
theorem witness_RedirectAndSetPc :
    (0x10040 : Word) &&& 3 = 0 ∧ (0x10041 : Word) &&& 3 ≠ 0 ∧ (busy [] [] []).stages.f.life = .running ∧
    cold.stages.f.life ≠ .running := by decide +kernel

/-- A state whose fetch cache holds the words at 0x10008 and 0x1000C. -/
def warm (pc : Word) : State :=
  { busy [] [] [] with fetch := { State.reset.fetch with
      nextPC := pc
      fc := [⟨true, 0x400, [false, false, true, true], [0, 0, 7, 8]⟩, resetFcEntry vectorConfig,
        resetFcEntry vectorConfig, resetFcEntry vectorConfig] } }

theorem warm_good : (warm 0x1000C).fetchGood := by
  refine ⟨by decide +kernel, (fun t h => by cases h), by decide +kernel, ?_⟩
  simp only [FcEntry.good]; decide +kernel

/-- The last word before the prefetch window, and the first within it. -/
theorem witness_FetchHit :
    ((warm 0x10008).stages.f.life = .running ∧ (warm 0x10008).stages.f.flushFlag = false ∧ (warm 0x10008).accepts .d ∧
      fcLookup vectorConfig (warm 0x10008).fetch.fc 0x10008 (fcSlot vectorConfig 0x10008) = some 7 ∧
      (0x10008 : Word).toNat % vectorConfig.fcLineSize < vectorConfig.fcLineSize - vectorConfig.prefetchWindow) ∧
    ((warm 0x1000C).accepts .d ∧
      fcLookup vectorConfig (warm 0x1000C).fetch.fc 0x1000C (fcSlot vectorConfig 0x1000C) = some 8 ∧
      vectorConfig.fcLineSize - vectorConfig.prefetchWindow ≤ (0x1000C : Word).toNat % vectorConfig.fcLineSize ∧
      fcLookup vectorConfig (warm 0x1000C).fetch.fc 0x10010 0 = none ∧ vectorConfig.fetchSource = .hierarchy ∧
      vectorConfig.ok = true) := by unfold State.accepts; decide +kernel

/-- A hit that Decode does not accept. -/
theorem witness_FetchHit_dropped :
    let s : State := { warm 0x10008 with stages := (busy [fresh 0, fresh 0, fresh 0, fresh 0] [] []).stages }
    s.stages.f.life = .running ∧ s.stages.f.flushFlag = false ∧ ¬ s.accepts .d ∧
    fcLookup vectorConfig s.fetch.fc 0x10008 (fcSlot vectorConfig 0x10008) = some 7 := by
  unfold State.accepts; decide +kernel

theorem witness_FetchHit_good : (warm 0x1000C).fetchGood := warm_good

theorem cold_fetchGood : (warm 0x10000).fetchGood := by
  refine ⟨by decide +kernel, (fun t h => by cases h), by decide +kernel, ?_⟩
  simp only [FcEntry.good]; decide +kernel

/-- A word the line does not hold, with other words of the line held, before and within the prefetch window. -/
theorem witness_FetchMiss :
    (warm 0x10000).cfg.ok = true ∧ (warm 0x10000).fetchGood ∧
    (warm 0x10000).stages.f.life = .running ∧ (warm 0x10000).stages.f.flushFlag = false ∧
    fcLookup vectorConfig (warm 0x10000).fetch.fc 0x10000 (fcSlot vectorConfig 0x10000) = none ∧
    fcLookup vectorConfig (warm 0x10000).fetch.fc 0x1001C (fcSlot vectorConfig 0x1001C) = none ∧
    vectorConfig.fcLineSize - vectorConfig.prefetchWindow ≤ (0x1001C : Word).toNat % vectorConfig.fcLineSize :=
  ⟨by decide +kernel, cold_fetchGood, rfl, rfl, by decide +kernel, by decide +kernel, by decide +kernel⟩

/-- The state with words read straight from main memory, and one draw. -/
def fromMemory (s : State) (n : Nat) : State :=
  { s with cfg := { s.cfg with fetchSource := .memory }, draws := ⟨[n], 0⟩ }

/-- A read that fails and one that does not; and a line of another tag in the PC's place (PC 0x10040). -/
theorem witness_FetchMiss_memory :
    (fromMemory (warm 0x10000) 1).cfg.ok = true ∧
    ReadsWord (fromMemory (warm 0x10000) 1).cfg 0x10000 cold.sys ⟨[1], 0⟩ none cold.sys ⟨[], 1⟩ ∧
    ReadsWord (fromMemory (warm 0x10000) 0).cfg 0x10000 cold.sys ⟨[0], 0⟩
      (some (leIWord (cold.sys.mem.readBytes 0x10000 4))) cold.sys ⟨[], 1⟩ ∧
    fcIndex vectorConfig 0x10040 = fcIndex vectorConfig 0x10000 ∧
    fcTag vectorConfig 0x10040 ≠ fcTag vectorConfig 0x10000 :=
  ⟨by decide +kernel, ⟨rfl, rfl, rfl⟩, ⟨rfl, rfl, rfl⟩, by decide +kernel, by decide +kernel⟩

/-- A fetch that fails is one stall, and `nextPC` stays (R200). -/
theorem test_fetch_fails :
    after (.sStep .f) (fromMemory (warm 0x10000) 1) (fun t => (t.fetch.nextPC, t.stages.f.stats.stallCycles, t.events,
      t.stages.d.queue.length, t.fetch.fcMisses)) =
    some (0x10000, 1, [.stageStalled .f], 0, 0) := by decide +kernel

theorem witness_FetchFlush :
    let s : State := { working with stages := working.stages.set .f { working.stages.f with flushFlag := true } }
    s.stages.f.life = .running ∧ s.stages.f.flushFlag = true := by decide +kernel

theorem witness_ControllerStartStop :
    cold.ctrl.pstate = .stopped ∧ working.ctrl.pstate ≠ .stopped ∧ working.ctrl.pstate = .running ∧
    cold.ctrl.pstate ≠ .running := by decide +kernel

/-- Running with no stage Running, and with four. -/
theorem witness_ControllerFlush :
    let s : State := { cold with ctrl := working.ctrl }
    let n (s : State) := ([s.stages.f, s.stages.d, s.stages.e, s.stages.w].filter (fun x => x.life == .running)).length
    cold.ctrl.pstate ≠ .running ∧ (s.ctrl.pstate = .running ∧ n s = 0) ∧
    (working.ctrl.pstate = .running ∧ n working ≠ 0) := by decide +kernel

theorem witness_FlushProtocol :
    [StageId.w, .f, .e, .d].Perm [.f, .d, .e, .w] ∧ working.ctrl.pstate = .running ∧
    ∀ id, (working.stages.get id).life = .running :=
  ⟨by decide, rfl, fun id => by cases id <;> rfl⟩

/-- A state of the controller over stages. -/
def controlled (s : State) (p : PState) : State := { s with ctrl := { s.ctrl with pstate := p } }

theorem witness_ControllerAdvance :
    ((controlled working .starting).ctrl.pstate = .starting ∧
      ∀ id, ((controlled working .starting).stages.get id).life = .running) ∧
    ((controlled cold .stopping).ctrl.pstate = .stopping ∧
      ∀ id, ((controlled cold .stopping).stages.get id).life = .stopped) ∧
    ((controlled cold .starting).ctrl.pstate = .starting ∧
      ∃ id, ((controlled cold .starting).stages.get id).life ≠ .running) ∧
    ((controlled working .stopping).ctrl.pstate = .stopping ∧
      ∃ id, ((controlled working .stopping).stages.get id).life ≠ .stopped) :=
  ⟨⟨rfl, fun id => by cases id <;> rfl⟩, ⟨rfl, fun id => by cases id <;> rfl⟩, ⟨rfl, .f, by decide +kernel⟩,
    ⟨rfl, .f, by decide +kernel⟩⟩

/-- As many exceptions as the threshold, and one more (section 2.7 row 10). -/
theorem witness_ExceptionRecovery :
    let s (l : List Nat) : State := { working with ctrl := { working.ctrl with pstate := .exception, excTicks := l } }
    let recent (l : List Nat) := (s l).ctrl.excTicks.filter (fun x => decide ((s l).ctrl.tick - x < (s l).cfg.excWindow))
    (s [0, 0, 0]).ctrl.pstate = .exception ∧ ¬ (s [0, 0, 0]).cfg.excFreqThreshold < (recent [0, 0, 0]).length ∧
    (s [0, 0, 0, 0]).cfg.excFreqThreshold < (recent [0, 0, 0, 0]).length := by decide +kernel

/-- Full (Decode), empty (Fetch) and half full (Execute) queues while Running; a limit at the cap and one at the floor; and the
controller in the other states. -/
theorem witness_TimerTunes :
    let s := busy [fresh 0, fresh 0, fresh 0, fresh 0] [fresh 0, fresh 0] []
    let u : State := { s with stages := ⟨{ s.stages.f with maxInFlight := 1, freePermits := 1 },
      { s.stages.d with maxInFlight := 64, freePermits := 60 }, s.stages.e, s.stages.w⟩ }
    let percent (s : State) (id : StageId) : Rat := 100 * (((s.stages.get id).queue.length : Rat) /
      ((min (s.cfg.queueCap.get id) (s.stages.get id).maxInFlight : Nat) : Rat))
    s.cfg.ok = true ∧ s.ctrl.pstate = .running ∧ u.ctrl.pstate = .running ∧ cold.ctrl.pstate = .stopped ∧
    (controlled cold .starting).ctrl.pstate ≠ .stopped ∧ (controlled cold .starting).ctrl.pstate ≠ .running ∧
    (80 < percent s .d ∧ (s.stages.get .d).life ≠ .stopped ∧ (s.stages.get .d).maxInFlight < s.cfg.limitCap) ∧
    (80 < percent u .d ∧ u.cfg.limitCap ≤ (u.stages.get .d).maxInFlight) ∧
    (percent s .f < 30 ∧ (s.stages.get .f).life ≠ .stopped ∧ s.cfg.limitFloor < (s.stages.get .f).maxInFlight) ∧
    (percent u .f < 30 ∧ (u.stages.get .f).maxInFlight ≤ u.cfg.limitFloor) ∧
    (30 ≤ percent s .e ∧ percent s .e ≤ 80) := by decide +kernel

/-- A Stopped stage while the controller is Running, with a rolling average above 80 percent, and one below 30. -/
theorem witness_TimerTunes_stopped :
    let s : State := { cold with
      cfg := { cold.cfg with rollingWindow := 10 }
      ctrl := { resetCtrl with pstate := .running, utilSamples := ⟨[], List.replicate 9 1, [], []⟩ } }
    let window (id : StageId) : List Rat :=
      let l := s.ctrl.utilSamples.get id ++ [((s.stages.get id).queue.length : Rat) /
        ((min (s.cfg.queueCap.get id) (s.stages.get id).maxInFlight : Nat) : Rat)]
      l.drop (l.length - s.cfg.rollingWindow)
    let percent (id : StageId) : Rat := 100 * ((window id).sum / ((window id).length : Rat))
    s.cfg.ok = true ∧ s.ctrl.pstate = .running ∧ (s.stages.get .d).life = .stopped ∧ 80 < percent .d ∧
    (s.stages.get .f).life = .stopped ∧ percent .f < 30 := by decide +kernel

/-- The last selector of each list, and the first number past it. -/
theorem witness_ReadOuts :
    ([.l1i, .l1d, .l2, .l3] : List Level)[3]? = some .l3 ∧
    ([.hits, .misses, .evictions, .writebacks] : List CacheCounter)[3]? = some .writebacks ∧
    ([.f, .d, .e, .w] : List StageId)[3]? = some .w ∧
    decodePacket (plainPacket 0x3104 0 0) = .ok (.xRdstat .compilationTriggers) ∧
    decodePacket (plainPacket 0x3105 0 0) = .error .reservedSelector ∧
    decodePacket (plainPacket 0x4005 0 0) = .ok (.wRdstat .excLogLength) ∧
    decodePacket (plainPacket 0x4006 0 0) = .error .reservedSelector :=
  ⟨rfl, rfl, rfl, rfl, rfl, rfl, rfl⟩

/-- A branch submitted to Writeback as a load of register 1 writes the register and resolves (R265, R268, R270). -/
theorem test_branch_loads :
    after (.sStep .w) (busy [] [] [{ branchAt true 0x10020 with isLoad := true, accessSize := .b1, loadValue := 0x80 }])
      (fun t => (t.readInt 1, t.wb.branchesTaken, t.fetch.branchTarget, t.wb.instructionsCommitted)) =
    some (0xFFFFFFFFFFFFFF80, 1, some 0x10020, 1) := by decide +kernel

/-- A record submitted to Execute as executed, whose execution faults, ends as a commit failure (R311; log entry 28). -/
theorem test_fault_unmarks :
    ((runInstrs [.sStep .e, .sStep .w] (busy [] [executed 0x40220C03] [])).map
      (fun t => (t.ex.executionExceptions, t.wb.commitFailures, t.wb.instructionsCommitted))) = some (1, 1, 0) := by
  decide +kernel

/-- A unit is told of a store that is not inside one line (R133; log entry 24). -/
theorem test_writeAnswer : cold.writeAnswer 0x10C 8 = none ∧ cold.writeAnswer 0x108 8 = some [] ∧
    (direct cold).writeAnswer 0x10C 8 = some [] := by decide +kernel

/-- A congested stage publishes its bottleneck after the snapshot, and grows (R296, R297). -/
theorem test_kTick_events :
    after .kTick (busy [fresh 0, fresh 0, fresh 0, fresh 0] [fresh 0, fresh 0] [fresh 0, fresh 0]) (fun t =>
      (t.events.length, t.events.getLast?, t.stages.d.maxInFlight, t.stages.d.freePermits)) =
    some (2, some (.bottleneckDetected .d), 6, 2) := by decide +kernel

end Sys2Proof.Tests
end

section
/-! PROOFS. Scope (00_scope.md): who may go next, what a step runs, and that a refused command changes nothing. -/

namespace Sys2Proof.Machine

/-! ## Stages and their lifecycle -/

@[simp] theorem StageId.mem_all (id : StageId) : id ∈ StageId.all := by cases id <;> decide

theorem State.running_iff (s : State) (id : StageId) : s.running id = true ↔ (s.stages.get id).life = .running := by
  simp [State.running, State.stage]

theorem State.allLife_iff (s : State) (l : Life) : s.allLife l = true ↔ ∀ id, (s.stages.get id).life = l := by
  simp [State.allLife, State.stage]

/-! ## What is enabled (R104) -/

/-- The controller's progress step is enabled in Starting once all stages run, in Stopping once all have stopped, and in
Exception (R287). -/
theorem State.advance_isSome_iff (s : State) : s.advance.isSome = true ↔
    (s.ctrl.pstate = .starting ∧ (∀ id, (s.stages.get id).life = .running) ∨
      s.ctrl.pstate = .stopping ∧ (∀ id, (s.stages.get id).life = .stopped) ∨ s.ctrl.pstate = .exception) := by
  rw [← s.allLife_iff .running, ← s.allLife_iff .stopped]
  cases h : s.ctrl.pstate <;> simp [State.advance, h]

theorem State.mem_workers_iff (s : State) (i : Instr) :
    i ∈ (StageId.all.filter s.running).map .sStep ↔ ∃ id, i = .sStep id ∧ (s.stages.get id).life = .running := by
  simp only [List.mem_map, List.mem_filter, StageId.mem_all, State.running_iff, true_and]
  exact exists_congr fun id => ⟨fun ⟨hrun, heq⟩ => ⟨heq.symm, hrun⟩, fun ⟨heq, hrun⟩ => ⟨hrun, heq.symm⟩⟩

theorem mem_completions_iff (l : List (Nat × InstrRecord)) (i : Instr) :
    i ∈ l.map (fun p => .xComplete (low64 p.1)) ↔ ∃ p ∈ l, i = .xComplete (BitVec.ofNat 64 p.1) := by
  simp only [List.mem_map, low64, eq_comm]

theorem State.mem_enabled_iff (s : State) (i : Instr) : i ∈ s.enabled ↔
    (∃ id, i = .sStep id ∧ (s.stages.get id).life = .running) ∨
    (∃ p ∈ s.ex.pendingHeavy, i = .xComplete (BitVec.ofNat 64 p.1)) ∨
    (i = .kTick ∧ s.ctrl.pstate ≠ .stopped) ∨ (i = .kAdvance ∧ s.advance.isSome = true) := by
  have timer : i ∈ (if s.ctrl.pstate = .stopped then [] else [Instr.kTick]) ↔
      i = .kTick ∧ s.ctrl.pstate ≠ .stopped := by
    split <;> simp_all
  have progress : i ∈ (if s.advance.isSome then [Instr.kAdvance] else []) ↔
      i = .kAdvance ∧ s.advance.isSome = true := by
    split <;> simp_all
  rw [State.enabled, List.mem_append, List.mem_append, List.mem_append, s.mem_workers_iff, mem_completions_iff, timer,
    progress, or_assoc, or_assoc]

/-! ## Whose turn it is (R18, R321 (g)) -/

/-- A state with one more draw supplied from outside, to be used first. -/
def State.supplied (s : State) (n : Nat) : State := { s with draws := { s.draws with given := n :: s.draws.given } }

theorem State.supplied_advance_isSome (s : State) (n : Nat) : (s.supplied n).advance.isSome = s.advance.isSome :=
  Bool.eq_iff_iff.mpr ((s.supplied n).advance_isSome_iff.trans s.advance_isSome_iff.symm)

/-- Who may go does not depend on the draws. -/
@[simp] theorem State.supplied_turns (s : State) (n : Nat) : (s.supplied n).turns = s.turns := by
  simp only [State.turns, State.enabled, s.supplied_advance_isSome]
  rfl

@[simp] theorem State.supplied_draw (s : State) (n : Nat) : (s.supplied n).draw.1 = n := rfl

/-- A draw that is a place in `turns` picks that place. -/
theorem State.supplied_pick (s : State) {n : Nat} (h : n < s.turns.length) : (s.supplied n).pick = n := by
  rw [State.pick, State.supplied_turns, State.supplied_draw]
  split
  · omega
  · exact Nat.mod_eq_of_lt h

/-- Whoever may go does go at some draw. -/
theorem State.exists_draw_turn (s : State) {t : Turn} (h : t ∈ s.turns) : ∃ n, (s.supplied n).turn = some t := by
  obtain ⟨n, hn, hat⟩ := List.mem_iff_getElem.mp h
  exact ⟨n, by rw [State.turn, s.supplied_pick hn, State.supplied_turns, List.getElem?_eq_getElem hn, hat]⟩

theorem State.agent_mem_turns (s : State) {i : Instr} (h : i ∈ s.enabled) : .agent i ∈ s.turns :=
  List.mem_append_right _ (List.mem_map_of_mem h)

theorem State.command_mem_turns (s : State) {p : Packet} {rest : List Packet} (h : s.port = p :: rest) :
    .command p ∈ s.turns := by
  simp [State.turns, h]

/-- Settles O7: the transitions are enabled by the rules' conditions, and a draw that is someone's place in the list of all
who may go lets that one go. -/
theorem anyEnabledMayGo : Obligations.AnyEnabledMayGo := by
  refine ⟨fun s i => ?_, fun s i h => s.exists_draw_turn (s.agent_mem_turns h),
    fun s p rest h => s.exists_draw_turn (s.command_mem_turns h)⟩
  rw [s.mem_enabled_iff, s.advance_isSome_iff]

/-! ## What a step runs -/

theorem step_command (s : State) (p : Packet) (i : Instr) (hcfg : s.cfg.ok = true) (hturn : s.turn = some (.command p))
    (hdec : decodePacket p = .ok i) : step s = exec (s.popped.refine i) s.popped := by
  simp only [step, hcfg, hturn, hdec, if_true]

theorem step_agent (s : State) (i : Instr) (hcfg : s.cfg.ok = true) (hturn : s.turn = some (.agent i)) :
    step s = keepResponse s.resp (exec (s.scheduled.refine i) s.scheduled) := by
  simp only [step, hcfg, hturn, if_true]

theorem State.scheduled_eq (s : State) : s.scheduled = { s with draws := s.restDraws } := rfl

theorem State.popped_eq (s : State) : s.popped = { s with port := s.port.tail, draws := s.restDraws } := rfl

/-- Settles O4: the state a command runs in, and the one an agent runs in, are the ones the statement writes out. -/
theorem stepRunsDecoded : Obligations.StepRunsDecoded := by
  refine ⟨fun s p i hcfg hturn hdec => ?_, fun s i hcfg hturn => ?_⟩
  · rw [step_command s p i hcfg hturn hdec, s.popped_eq]
  · rw [step_agent s i hcfg hturn, s.scheduled_eq]

/-! ## Replies (R16, R103) -/

/-- A state `t` answers a command run in `s`: it holds a response, and where that is an error, `t` is `s` but for it. -/
def State.repliedBy (s t : State) : Prop :=
  ∃ p : Response, t.resp = some p ∧
    (p.status ≠ .ok → p.status ≠ .rejected → p.r = 0 ∧ p.q = [] ∧ t = { s with resp := some p })

theorem State.repliedBy_answer (s t : State) (r : Word) (q : List Byte) : s.repliedBy (t.answer r q) :=
  ⟨_, rfl, fun hok => absurd rfl hok⟩

theorem State.repliedBy_okay (s t : State) : s.repliedBy t.okay := s.repliedBy_answer t 0 []

theorem State.repliedBy_rejected (s t : State) : s.repliedBy { t with resp := some ⟨.rejected, 0, []⟩ } :=
  ⟨_, rfl, fun _ hrej => absurd rfl hrej⟩

theorem State.repliedBy_refuse (s : State) (c : Status) : s.repliedBy (s.refuse c) := ⟨_, rfl, fun _ _ => ⟨rfl, rfl, rfl⟩⟩

/-- A command of the usual form, accepted under a condition and refused otherwise, answers. -/
theorem State.repliedBy_ite (s t u : State) (c : Prop) [Decidable c] (ht : s.repliedBy t) (hu : s.repliedBy u) :
    s.repliedBy (if c then t else u) := by
  split
  · exact ht
  · exact hu

theorem State.repliedBy_readCommand (s : State) (k : ReadKind) (a n : Word) : s.repliedBy (readCommand k a n s) := by
  unfold readCommand
  split
  · exact s.repliedBy_refuse _
  · exact s.repliedBy_answer _ _ _

theorem State.repliedBy_flushRequest (s : State) (id : StageId) : s.repliedBy (flushRequest id s) :=
  s.repliedBy_ite _ _ _ (s.repliedBy_okay _) (s.repliedBy_refuse _)

theorem State.repliedBy_decodeStep (s : State) (w : IWord) : s.repliedBy (s.decodeStep w) :=
  s.repliedBy_ite _ _ _ (s.repliedBy_okay _) (s.repliedBy_refuse _)

/-- Every instruction answers a next state that holds its response (R16, R103). -/
theorem exec_replies (i : Instr) (s : State) : ∃ t, exec i s = .next t ∧ s.repliedBy t := by
  have accepted (t : State) := s.repliedBy_okay t
  have refused (c : Status) := s.repliedBy_refuse c
  cases i with
  | cRead a n | cIfetch a n => exact ⟨_, rfl, s.repliedBy_readCommand _ a n⟩
  | cWrite a n bs =>
    refine ⟨_, rfl, s.repliedBy_ite _ _ _ (s.repliedBy_ite _ _ _ ?_ (refused _)) (refused _)⟩
    split
    · exact refused _
    · exact accepted _
  | cInvrange a n => exact ⟨_, rfl, s.repliedBy_ite _ _ _ (accepted _) (s.repliedBy_ite _ _ _ (refused _) (accepted _))⟩
  | cValidate | cRdstat | sRdstat | fRdstat | xRdstat | wRdstat | kRdstate =>
    exact ⟨_, rfl, s.repliedBy_answer _ _ _⟩
  | cFlushall | kException | reset => exact ⟨_, rfl, accepted _⟩
  | sInit => exact ⟨_, rfl, s.repliedBy_ite _ _ _ (refused _) (accepted _)⟩
  | sStart | sStep | kStart | kStop | kFlush => exact ⟨_, rfl, s.repliedBy_ite _ _ _ (accepted _) (refused _)⟩
  | sShutdown | kTick => exact ⟨_, rfl, s.repliedBy_ite _ _ _ (refused _) (accepted _)⟩
  | sSubmit id r => exact ⟨_, rfl, s.repliedBy_ite _ _ _ (accepted _) (s.repliedBy_rejected _)⟩
  | sAdjust id n =>
    refine ⟨_, rfl, ?_⟩
    split
    · exact refused _
    · exact s.repliedBy_answer _ _ _
  | sFlush | fFlushreq => exact ⟨_, rfl, s.repliedBy_flushRequest _⟩
  | fSetpc a =>
    exact ⟨_, rfl, s.repliedBy_ite _ _ _ (refused _) (s.repliedBy_ite _ _ _ (accepted _) (refused _))⟩
  | fRedirect | xComplete | kAdvance =>
    refine ⟨_, rfl, ?_⟩
    split
    · exact accepted _
    · exact refused _
  | nopWord | misc00 | invalid01 | invalid02 | invalid03 | invalid04 | invalid05 | invalid06 | invalid07 | memory08
  | operate10 | floatOp14 | misc18 | invalid19 | jump1A | invalid1B | operate1C | invalid1D | invalid1E | invalid1F
  | memory20 | branch30 => exact ⟨_, rfl, s.repliedBy_decodeStep _⟩

/-- Settles O16: each instruction's reply is an acceptance, a rejected submit, or a refusal, which only writes the response. -/
theorem refusalsChangeNothing : Obligations.RefusalsChangeNothing := by
  intro i s
  obtain ⟨t, hexec, p, hresp, herror⟩ := exec_replies i s
  exact ⟨t, p, hexec, hresp, herror⟩

end Sys2Proof.Machine
end

section
/-! PROOFS. State (10_state.md): what a step can do, once for every invariant of the state. -/

namespace Sys2Proof.Machine

/-! ## What a step does to the block (R16, R18, R104) -/

/-- A Decode function: it outputs some record and touches nothing (R220, R226). -/
def Process.OutputsOnly (p : Process) : Prop := ∀ r s, ∃ r', p r s = (.output r', s)

theorem Process.OutputsOnly.keeps {p : Process} (hp : p.OutputsOnly) {P : State → Prop} (r : InstrRecord) (s : State)
    (h : P s) : P (p r s).2 := by
  obtain ⟨_, heq⟩ := hp r s
  rwa [heq]

theorem processD_outputsOnly : Process.OutputsOnly processD := fun _ _ => ⟨_, rfl⟩

theorem processWord_outputsOnly (w : IWord) : Process.OutputsOnly (processWord w) := fun _ _ => ⟨_, rfl⟩

/-- What an instruction other than `RESET` can make of a state, but for the response it leaves. -/
inductive State.Does (s : State) : State → Prop
  | nothing : s.Does s
  | read (k : ReadKind) (a : Word) (n : Nat) {q : List Byte} {m : MemSys}
      (h : cacheRead s.cfg k a n s.sys = some (q, m)) : s.Does { s with sys := m }
  | write (a : Word) (bs : List Byte) {m : MemSys} (h : cacheWrite s.cfg a bs s.sys = some m) :
      s.Does { s with sys := m }
  | writeBackAll : s.Does { s with sys := flushAll s.cfg s.sys }
  | dropLines (lo hi : Word) : s.Does { s with sys := invalidateLines s.cfg lo hi s.sys }
  | init (id : StageId) (h : s.running id = false) : s.Does (s.initStage id)
  | start (id : StageId) (h : (s.stage id).life = .ready) : s.Does (s.startStage id)
  | submit (id : StageId) (r : InstrRecord) : s.Does (s.submit id r).2
  | resize (id : StageId) (n : Nat) (h : s.adjustRefusal id n = none) : s.Does (s.resize id n)
  | shutdown (id : StageId) : s.Does (s.shutdownStage id)
  | flag (id : StageId) (h : s.running id = true) : s.Does (s.setStage id { s.stage id with flushFlag := true })
  | redirect {t : Word} {u : State} (h : s.redirect t = some u) : s.Does u
  | setPC {a : Word} (h : aligned4 a = true) : s.Does { s with fetch := { s.fetch with nextPC := a } }
  | fetch (h : s.running .f = true) : s.Does s.fetchIteration
  | decode {p : Process} (h : s.running .d = true) (hp : p.OutputsOnly) : s.Does (s.iterate .d p)
  | execute (h : s.running .e = true) : s.Does (s.iterate .e processE)
  | writeback (h : s.running .w = true) : s.Does (s.iterate .w processW)
  | completeHeavy {id : Nat} {r : InstrRecord} (h : s.ex.pending id = some r) : s.Does (s.completeHeavy id r)
  | startAll (h : s.ctrl.pstate = .stopped) : s.Does s.startAll
  | stopAll (h : s.ctrl.pstate = .running) : s.Does s.stopAll
  | beginFlush (h : s.ctrl.pstate = .running) : s.Does s.beginFlush
  | exception (v : Nat) (pc : Word) : s.Does (s.controllerException v pc)
  | tick : s.Does s.timerTick
  | advance {u : State} (h : s.advance = some u) : s.Does u

/-- The same block: only the command port, the response and the draws may differ. -/
def State.SameBlock (s t : State) : Prop :=
  ∃ port resp draws, t = { s with port := port, resp := resp, draws := draws }

theorem State.SameBlock.answer {s : State} (r : Word) (q : List Byte) : s.SameBlock (s.answer r q) := ⟨_, _, _, rfl⟩

theorem State.SameBlock.okay {s : State} : s.SameBlock s.okay := ⟨_, _, _, rfl⟩

theorem State.SameBlock.refuse {s : State} (c : Status) : s.SameBlock (s.refuse c) := ⟨_, _, _, rfl⟩

theorem State.SameBlock.scheduled {s : State} : s.SameBlock s.scheduled := ⟨_, _, _, rfl⟩

theorem State.SameBlock.popped {s : State} : s.SameBlock s.popped := ⟨_, _, _, rfl⟩

theorem State.SameBlock.trans {s t u : State} (h : s.SameBlock t) (h' : t.SameBlock u) : s.SameBlock u := by
  obtain ⟨_, _, _, rfl⟩ := h
  obtain ⟨_, _, _, rfl⟩ := h'
  exact ⟨_, _, _, rfl⟩

/-- `t` is what an instruction makes of `s` and then answers. -/
def State.Leads (s t : State) : Prop := ∃ u, s.Does u ∧ u.SameBlock t

theorem State.Leads.of_okay {s u : State} (h : s.Does u) : s.Leads u.okay := ⟨u, h, .okay⟩

theorem State.Leads.of_answer {s : State} (r : Word) (q : List Byte) : s.Leads (s.answer r q) := ⟨s, .nothing, .answer r q⟩

theorem State.Leads.of_refuse {s : State} (c : Status) : s.Leads (s.refuse c) := ⟨s, .nothing, .refuse c⟩

/-- A command of the usual form: accepted under a condition, refused otherwise. -/
theorem State.Leads.of_ite {s t u : State} {p : Prop} [Decidable p] (ht : p → s.Leads t) (hu : ¬ p → s.Leads u) :
    s.Leads (if p then t else u) := by
  split
  · exact ht ‹_›
  · exact hu ‹_›

theorem readCommand_leads (k : ReadKind) (a n : Word) (s : State) : s.Leads (readCommand k a n s) := by
  unfold readCommand
  split
  · exact .of_refuse _
  · exact ⟨_, .read k a _ ‹_›, .answer _ _⟩

theorem flushRequest_leads (id : StageId) (s : State) : s.Leads (flushRequest id s) :=
  .of_ite (fun h => .of_okay (.flag id h)) (fun _ => .of_refuse _)

theorem State.decodeStep_leads (s : State) (w : IWord) : s.Leads (s.decodeStep w) :=
  .of_ite (fun h => .of_okay (.decode h (processWord_outputsOnly w))) (fun _ => .of_refuse _)

theorem State.workerStep_does (s : State) (id : StageId) (h : s.running id = true) : s.Does (s.workerStep id) := by
  cases id
  case f => exact .fetch h
  case d => exact .decode h processD_outputsOnly
  case e => exact .execute h
  case w => exact .writeback h

/-- What an instruction answers: `RESET` the block at its reset values, any other one of the things of `State.Does`. -/
theorem exec_leads (i : Instr) (s : State) :
    ∃ t, exec i s = .next t ∧ (s.Leads t ∨ i = .reset ∧ s.resetBlock.SameBlock t) := by
  cases i with
  | reset => exact ⟨_, rfl, .inr ⟨rfl, .okay⟩⟩
  | cRead a n | cIfetch a n => exact ⟨_, rfl, .inl (readCommand_leads _ a n s)⟩
  | cWrite a n bs =>
    refine ⟨_, rfl, .inl (.of_ite (fun _ => .of_ite (fun _ => ?_) fun _ => .of_refuse _) fun _ => .of_refuse _)⟩
    split
    · exact .of_refuse _
    · exact .of_okay (.write a bs ‹_›)
  | cFlushall => exact ⟨_, rfl, .inl (.of_okay .writeBackAll)⟩
  | cInvrange a n =>
    exact ⟨_, rfl, .inl (.of_ite (fun _ => .of_okay .nothing)
      fun _ => .of_ite (fun _ => .of_refuse _) fun _ => .of_okay (.dropLines _ _))⟩
  | cValidate | cRdstat | sRdstat | fRdstat | xRdstat | wRdstat | kRdstate => exact ⟨_, rfl, .inl (.of_answer _ _)⟩
  | sInit id =>
    exact ⟨_, rfl, .inl (.of_ite (fun _ => .of_refuse _) fun h => .of_okay (.init id (Bool.eq_false_iff.mpr h)))⟩
  | sStart id => exact ⟨_, rfl, .inl (.of_ite (fun h => .of_okay (.start id h)) fun _ => .of_refuse _)⟩
  | sSubmit id r =>
    exact ⟨_, rfl, .inl (.of_ite (fun _ => .of_okay (.submit id r)) fun _ => ⟨_, .submit id r, _, _, _, rfl⟩)⟩
  | sStep id => exact ⟨_, rfl, .inl (.of_ite (fun h => .of_okay (s.workerStep_does id h)) fun _ => .of_refuse _)⟩
  | sAdjust id n =>
    refine ⟨_, rfl, .inl ?_⟩
    split
    · exact .of_refuse _
    · exact ⟨_, .resize id _ ‹_›, .answer _ _⟩
  | sShutdown id => exact ⟨_, rfl, .inl (.of_ite (fun _ => .of_refuse _) fun _ => .of_okay (.shutdown id))⟩
  | sFlush | fFlushreq => exact ⟨_, rfl, .inl (flushRequest_leads _ s)⟩
  | fRedirect t =>
    refine ⟨_, rfl, .inl ?_⟩
    split
    · exact .of_okay (.redirect ‹_›)
    · exact .of_refuse _
  | fSetpc a =>
    exact ⟨_, rfl, .inl (.of_ite (fun _ => .of_refuse _)
      fun _ => .of_ite (fun h => .of_okay (.setPC h)) fun _ => .of_refuse _)⟩
  | xComplete id =>
    refine ⟨_, rfl, .inl ?_⟩
    split
    · exact .of_okay (.completeHeavy ‹_›)
    · exact .of_refuse _
  | kStart => exact ⟨_, rfl, .inl (.of_ite (fun h => .of_okay (.startAll h)) fun _ => .of_refuse _)⟩
  | kStop => exact ⟨_, rfl, .inl (.of_ite (fun h => .of_okay (.stopAll h)) fun _ => .of_refuse _)⟩
  | kFlush => exact ⟨_, rfl, .inl (.of_ite (fun h => .of_okay (.beginFlush h)) fun _ => .of_refuse _)⟩
  | kException v pc => exact ⟨_, rfl, .inl (.of_okay (.exception _ pc))⟩
  | kTick => exact ⟨_, rfl, .inl (.of_ite (fun _ => .of_refuse _) fun _ => .of_okay .tick)⟩
  | kAdvance =>
    refine ⟨_, rfl, .inl ?_⟩
    split
    · exact .of_okay (.advance ‹_›)
    · exact .of_refuse _
  | nopWord | misc00 | invalid01 | invalid02 | invalid03 | invalid04 | invalid05 | invalid06 | invalid07 | memory08
  | operate10 | floatOp14 | misc18 | invalid19 | jump1A | invalid1B | operate1C | invalid1D | invalid1E | invalid1F
  | memory20 | branch30 => exact ⟨_, rfl, .inl (s.decodeStep_leads _)⟩

/-- What an instruction that has answered did. -/
theorem exec_next_cases {i : Instr} {s t : State} (h : exec i s = .next t) :
    s.Leads t ∨ i = .reset ∧ s.resetBlock.SameBlock t := by
  obtain ⟨t', heq, hcases⟩ := exec_leads i s
  obtain rfl := Host.Outcome.next.inj (heq.symm.trans h)
  exact hcases

/-- What a step did: nothing to the block, or what an instruction does to it, under a legal configuration. -/
theorem step_next_cases {s t : State} (h : step s = .next t) : s.cfg.ok = true ∧
    (s.SameBlock t ∨ ∃ u v, s.SameBlock u ∧ (u.Does v ∨ v = u.resetBlock) ∧ v.SameBlock t) := by
  have ran {i : Instr} {u v : State} (hu : s.SameBlock u) (hv : exec i u = .next v) :
      ∃ u v', s.SameBlock u ∧ (u.Does v' ∨ v' = u.resetBlock) ∧ v'.SameBlock v := by
    rcases exec_next_cases hv with ⟨v', hdoes, hsame⟩ | ⟨_, hsame⟩
    · exact ⟨u, v', hu, .inl hdoes, hsame⟩
    · exact ⟨u, _, hu, .inr rfl, hsame⟩
  unfold step at h
  split at h
  case isFalse => cases h
  case isTrue hok =>
  refine ⟨hok, ?_⟩
  split at h
  · cases h
    exact .inl ⟨_, _, _, rfl⟩
  · split at h
    · exact .inr (ran .popped h)
    · cases h
      exact .inl (State.SameBlock.popped.trans (.refuse _))
  · obtain ⟨v, hv, -⟩ := exec_leads (s.scheduled.refine ‹Instr›) s.scheduled
    rw [hv] at h
    obtain ⟨u, v', hu, hdoes, hsame⟩ := ran .scheduled hv
    cases h
    exact .inr ⟨u, v', hu, hdoes, hsame.trans ⟨_, _, _, rfl⟩⟩

/-- An invariant of the block is kept by every step, if what an instruction does keeps it and reset brings it about. -/
theorem step_keeps {P : State → Prop} (hsame : ∀ {s t : State}, s.SameBlock t → P s → P t)
    (hdoes : ∀ {s t : State}, s.cfg.ok = true → P s → s.Does t → P t)
    (hreset : ∀ {s : State}, s.cfg.ok = true → P s → P s.resetBlock) {s t : State} (hs : P s) (h : step s = .next t) :
    P t := by
  obtain ⟨hok, hst | ⟨u, v, hsu, huv, hvt⟩⟩ := step_next_cases h
  · exact hsame hst hs
  · have hu : P u := hsame hsu hs
    have hcfg : u.cfg.ok = true := by obtain ⟨_, _, _, rfl⟩ := hsu; exact hok
    rcases huv with hdo | rfl
    · exact hsame hvt (hdoes hcfg hu hdo)
    · exact hsame hvt (hreset hcfg hu)

/-! ## What the stages' bookkeeping leaves alone -/

/-- The same data: what the queues, the gates, the controller, the events and the draws are not. -/
structure State.SameData (s t : State) : Prop where
  cfg : t.cfg = s.cfg
  sys : t.sys = s.sys
  ints : t.ints = s.ints
  floats : t.floats = s.floats
  fetch : t.fetch = s.fetch
  ex : t.ex = s.ex
  wb : t.wb = s.wb

theorem State.sameData_iff {s t : State} : s.SameData t ↔ t.cfg = s.cfg ∧ t.sys = s.sys ∧ t.ints = s.ints ∧
    t.floats = s.floats ∧ t.fetch = s.fetch ∧ t.ex = s.ex ∧ t.wb = s.wb :=
  ⟨fun ⟨hcfg, hsys, hints, hfloats, hfetch, hex, hwb⟩ => ⟨hcfg, hsys, hints, hfloats, hfetch, hex, hwb⟩,
    fun ⟨hcfg, hsys, hints, hfloats, hfetch, hex, hwb⟩ => ⟨hcfg, hsys, hints, hfloats, hfetch, hex, hwb⟩⟩

theorem State.SameBlock.sameData {s t : State} (h : s.SameBlock t) : s.SameData t := by
  obtain ⟨_, _, _, rfl⟩ := h
  simp [State.sameData_iff]

/-- A worker's iteration leaves the data as it was, or as the stage's `process` leaves it (R174 to R177). -/
theorem State.iterate_data (s : State) (id : StageId) (p : Process) :
    s.SameData (s.iterate id p) ∨ ∃ r u, s.SameData u ∧ (p r u).2.SameData (s.iterate id p) := by
  unfold State.iterate
  split
  · exact .inl (by simp [State.sameData_iff])
  · split
    · exact .inl (by simp [State.sameData_iff])
    · rename_i r _ _
      refine .inr ⟨r, (s.dequeue id).draw.2, by simp [State.sameData_iff], ?_⟩
      unfold State.work
      simp only
      split <;> simp_all [State.sameData_iff]

theorem State.iterate_keeps {P : State → Prop} (hdata : ∀ {s t : State}, s.SameData t → P s → P t) {p : Process}
    (hp : ∀ r s, P s → P (p r s).2) {s : State} (id : StageId) (hs : P s) : P (s.iterate id p) := by
  rcases s.iterate_data id p with h | ⟨r, u, hu, h⟩
  · exact hdata h hs
  · exact hdata h (hp r u (hdata hu hs))

/-- Starting every stage re-initialises stages one after another (R286). -/
theorem State.startAll_keeps {P : State → Prop} (hdata : ∀ {s t : State}, s.SameData t → P s → P t)
    (hinit : ∀ {s : State} (id : StageId), P s → P (s.initStage id)) {s : State} (hs : P s) : P s.startAll := by
  refine List.foldlRecOn _ _ (hdata (by simp [State.sameData_iff]) hs) fun u hu id _ => ?_
  unfold State.bringUp
  split
  · exact hu
  · exact hdata (by simp [State.sameData_iff]) (hinit id hu)

/-- Stopping every stage shuts stages down one after another (R288). -/
theorem State.stopAll_keeps {P : State → Prop} (hdata : ∀ {s t : State}, s.SameData t → P s → P t)
    (hstop : ∀ {s : State} (id : StageId), P s → P (s.shutdownStage id)) {s : State} (hs : P s) : P s.stopAll := by
  refine List.foldlRecOn _ _ (hdata (by simp [State.sameData_iff]) hs) fun u hu id _ => ?_
  unfold State.bringDown
  split
  · exact hu
  · exact hstop id hu

/-- A redirect is taken at a multiple of 4 only (R202). -/
theorem State.redirect_eq_some {s u : State} {t : Word} (h : s.redirect t = some u) :
    aligned4 t = true ∧ u = { s with fetch := { s.fetch with branchTarget := some t } } := by
  obtain ⟨haligned, heq⟩ := Option.ite_none_right_eq_some.mp h
  exact ⟨haligned, (Option.some.inj heq).symm⟩

/-- The controller's progress touches no data (R287). -/
theorem State.advance_sameData {s u : State} (h : s.advance = some u) : s.SameData u := by
  unfold State.advance at h
  split at h
  · split at h <;> cases h; simp [State.sameData_iff]
  · split at h <;> cases h; simp [State.sameData_iff]
  · cases h; simp [State.sameData_iff]
  all_goals cases h

end Sys2Proof.Machine
end

section
/-! PROOFS. State (10_state.md): the exception log, Fetch's addresses and cache, and Execute's ids and tier table. -/

namespace Sys2Proof.Machine

/-! ## The exception log (R45, R273) -/

theorem State.logGood_congr {s t : State} (hcfg : t.cfg = s.cfg) (hwb : t.wb = s.wb) (h : s.logGood) : t.logGood := by
  simpa only [State.logGood, hcfg, hwb] using h

theorem State.logGood_sameData {s t : State} (hst : s.SameData t) : s.logGood → t.logGood :=
  State.logGood_congr hst.cfg hst.wb

/-- Counting a resolved branch leaves the log. -/
@[simp] theorem WbState.countBranch_log (b : WbState) (taken : Bool) :
    (b.countBranch taken).excLog = b.excLog ∧ (b.countBranch taken).excSeq = b.excSeq := by
  cases taken <;> exact ⟨rfl, rfl⟩

@[simp] theorem State.resolveBranch_wb (s : State) (r : InstrRecord) :
    (s.resolveBranch r).wb = s.wb.countBranch (branchTaken r) := by
  unfold State.resolveBranch
  split <;> simp

theorem State.commit_log (s : State) (r : InstrRecord) :
    (s.commit r).wb.excLog = s.wb.excLog ∧ (s.commit r).wb.excSeq = s.wb.excSeq := by
  unfold State.commit
  repeat' split
  all_goals simp

theorem State.commitFailure_log (s : State) :
    s.commitFailure.wb.excLog = s.wb.excLog ∧ s.commitFailure.wb.excSeq = s.wb.excSeq := by
  simp [State.commitFailure]

/-- What stays in the log after a prune was in it, in the same order. -/
theorem pruneLog_sublist (cap maxAge seq : Nat) (log : List ExcEntry) : (pruneLog cap maxAge seq log).Sublist log :=
  (List.drop_sublist _ _).trans List.filter_sublist

theorem pruneLog_length_le (cap maxAge seq : Nat) (log : List ExcEntry) : (pruneLog cap maxAge seq log).length ≤ cap := by
  simp only [pruneLog, List.length_drop]
  omega

theorem pruneLog_age (cap maxAge seq : Nat) (log : List ExcEntry) :
    ∀ e ∈ pruneLog cap maxAge seq log, seq - e.stamp < maxAge := by
  intro e he
  simpa using (List.mem_filter.mp (List.mem_of_mem_drop he)).2

/-- A new entry, stamped beyond all the others, keeps the log rising. -/
theorem State.logGood_append {s : State} (h : s.logGood) {e : ExcEntry} (he : e.stamp = s.wb.excSeq + 1) :
    (s.wb.excLog ++ [e]).Pairwise (fun x y => x.stamp < y.stamp) ∧
      ∀ x ∈ s.wb.excLog ++ [e], x.stamp ≤ s.wb.excSeq + 1 := by
  obtain ⟨-, hrising, hbound⟩ := h
  refine ⟨List.pairwise_append.mpr ⟨hrising, List.pairwise_singleton _ _, fun x hx y hy => ?_⟩, fun x hx => ?_⟩
  · rw [List.mem_singleton.mp hy, he]
    exact Nat.lt_succ_of_le (hbound x hx).1
  · rcases List.mem_append.mp hx with hold | hnew
    · exact Nat.le_succ_of_le (hbound x hold).1
    · exact (List.mem_singleton.mp hnew ▸ he).le

/-- The prune restores the bounds (R271, R273). -/
theorem State.raiseException_logGood {s : State} (r : InstrRecord) (h : s.logGood) : (s.raiseException r).logGood := by
  obtain ⟨hrising, hstamp⟩ :=
    State.logGood_append h (e := ⟨r.excVector, r.pc, Config.vectorCategory r.excVector, s.wb.excSeq + 1⟩) rfl
  have hsub := pruneLog_sublist s.cfg.excLogCap s.cfg.excLogMaxAge (s.wb.excSeq + 1)
    (s.wb.excLog ++ [⟨r.excVector, r.pc, Config.vectorCategory r.excVector, s.wb.excSeq + 1⟩])
  exact ⟨pruneLog_length_le _ _ _ _, hrising.sublist hsub,
    fun e he => ⟨hstamp e (hsub.subset he), pruneLog_age _ _ _ _ e he⟩⟩

theorem State.writeback_logGood {s : State} (r : InstrRecord) (h : s.logGood) : (s.writeback r).logGood := by
  unfold State.writeback
  split
  · split
    · exact State.raiseException_logGood r h
    · obtain ⟨hlog, hseq⟩ := s.commit_log r
      simpa [State.logGood, hlog, hseq] using h
  · obtain ⟨hlog, hseq⟩ := s.commitFailure_log
    simpa [State.logGood, hlog, hseq] using h

/-- An empty log is good. -/
theorem State.logGood_resetWb {s : State} (h : s.wb = resetWb) : s.logGood := by
  simp [State.logGood, h, resetWb]

theorem State.initStage_logGood {s : State} (id : StageId) (h : s.logGood) : (s.initStage id).logGood := by
  cases id
  case w => exact State.logGood_resetWb rfl
  all_goals exact State.logGood_congr (by simp) rfl h

theorem State.Does.logGood {s t : State} (h : s.Does t) (hs : s.logGood) : t.logGood := by
  cases h with
  | nothing => exact hs
  | read | write | writeBackAll | dropLines | setPC => exact State.logGood_congr rfl rfl hs
  | init id => exact State.initStage_logGood id hs
  | startAll => exact State.startAll_keeps State.logGood_sameData State.initStage_logGood hs
  | decode _ hp => exact State.iterate_keeps State.logGood_sameData hp.keeps .d hs
  | execute =>
    refine State.iterate_keeps State.logGood_sameData (fun r u => ?_) .e hs
    obtain ⟨hcfg, -, -, hwb, -⟩ := processE_frame u r
    exact State.logGood_congr hcfg hwb
  | writeback => exact State.iterate_keeps State.logGood_sameData (fun r _ => State.writeback_logGood r) .w hs
  | completeHeavy =>
    refine State.logGood_congr ?_ ?_ hs <;> simp [State.completeHeavy, executeInline_frame]
  | redirect h =>
    obtain ⟨-, rfl⟩ := State.redirect_eq_some h
    exact State.logGood_congr rfl rfl hs
  | advance h => exact State.logGood_sameData (State.advance_sameData h) hs
  | start | submit | resize | shutdown | flag | fetch | stopAll | beginFlush | exception | tick =>
    exact State.logGood_congr (by simp) (by simp) hs

/-- Settles O13: only Writeback's exception and a reset of the log touch it. -/
theorem stepKeepsLog : Obligations.StepKeepsLog := fun _ _ =>
  step_keeps (fun h => State.logGood_sameData h.sameData) (fun _ hs h => h.logGood hs) (fun _ _ => State.logGood_resetWb rfl)

end Sys2Proof.Machine
end

section
/-! PROOFS. State (10_state.md): Execute's pending heavy operations and its tier table (R40, R41, R252, R257). -/

namespace Sys2Proof.Machine

/-! ## The tier table as a map (R41) -/

theorem mem_tierSet {pc : Nat} {e : TierEntry} {p : Nat × TierEntry} : ∀ {t : List (Nat × TierEntry)},
    p ∈ tierSet t pc e → p = (pc, e) ∨ p ∈ t
  | [], h => .inl (List.mem_singleton.mp h)
  | (k, v) :: t, h => by
    unfold tierSet at h
    split at h
    · exact List.mem_cons.mp h
    · split at h
      · exact (List.mem_cons.mp h).imp_right (List.mem_cons_of_mem _)
      · rcases List.mem_cons.mp h with rfl | hrest
        · exact .inr List.mem_cons_self
        · exact (mem_tierSet hrest).imp_right (List.mem_cons_of_mem _)

/-- A write keeps one record per PC, the PCs rising. -/
theorem tierSet_rising (pc : Nat) (e : TierEntry) : ∀ {t : List (Nat × TierEntry)},
    t.Pairwise (fun p q => p.1 < q.1) → (tierSet t pc e).Pairwise (fun p q => p.1 < q.1)
  | [], _ => List.pairwise_singleton _ _
  | (k, v) :: t, h => by
    obtain ⟨hk, ht⟩ := List.pairwise_cons.mp h
    unfold tierSet
    split
    case isTrue hlt =>
      refine List.pairwise_cons.mpr ⟨fun q hq => ?_, h⟩
      rcases List.mem_cons.mp hq with rfl | hrest
      · exact hlt
      · exact hlt.trans (hk q hrest)
    case isFalse hge =>
      split
      case isTrue heq =>
        subst heq
        exact List.pairwise_cons.mpr ⟨hk, ht⟩
      case isFalse hne =>
        refine List.pairwise_cons.mpr ⟨fun q hq => ?_, tierSet_rising pc e ht⟩
        rcases mem_tierSet hq with rfl | hrest
        · show k < pc
          omega
        · exact hk q hrest

/-- A PC's record is absent, or listed. -/
theorem tierGet_cases (pc : Nat) : ∀ t : List (Nat × TierEntry), tierGet t pc = noTier ∨ (pc, tierGet t pc) ∈ t
  | [] => .inl rfl
  | (k, v) :: t => by
    unfold tierGet
    split
    case isTrue h =>
      subst h
      exact .inr List.mem_cons_self
    case isFalse => exact (tierGet_cases pc t).imp_right (List.mem_cons_of_mem _)

theorem tierGet_below {pc : Nat} {t : List (Nat × TierEntry)} (h : ∀ q ∈ t, pc < q.1) : tierGet t pc = noTier :=
  (tierGet_cases pc t).resolve_right fun hmem => Nat.lt_irrefl pc (h _ hmem)

/-- How many PCs have requested a compilation. -/
def tierRequests (t : List (Nat × TierEntry)) : Nat := (t.filter (fun p => p.2.compileRequested)).length

@[simp] theorem tierRequests_nil : tierRequests [] = 0 := rfl

theorem tierRequests_cons (k : Nat) (v : TierEntry) (t : List (Nat × TierEntry)) :
    tierRequests ((k, v) :: t) = v.compileRequested.toNat + tierRequests t := by
  cases h : v.compileRequested <;> simp [tierRequests, h, Nat.add_comm]

/-- A write moves the number of requests by what it changes of the PC's own request. -/
theorem tierRequests_tierSet (pc : Nat) (e : TierEntry) : ∀ {t : List (Nat × TierEntry)},
    t.Pairwise (fun p q => p.1 < q.1) →
    tierRequests (tierSet t pc e) + (tierGet t pc).compileRequested.toNat = tierRequests t + e.compileRequested.toNat
  | [], _ => by simp [tierSet, tierGet, noTier, tierRequests_cons]
  | (k, v) :: t, h => by
    obtain ⟨hk, ht⟩ := List.pairwise_cons.mp h
    unfold tierSet tierGet
    split
    case isTrue hlt =>
      have habsent : tierGet t pc = noTier := tierGet_below fun q hq => hlt.trans (hk q hq)
      rw [if_neg (Nat.ne_of_lt hlt), habsent, tierRequests_cons pc e]
      simp [noTier, Nat.add_comm]
    case isFalse hge =>
      split
      case isTrue heq =>
        simp only [tierRequests_cons]
        omega
      case isFalse hne =>
        simp only [tierRequests_cons]
        have := tierRequests_tierSet pc e ht
        omega

/-! ## The two accounts of Execute's own state -/

/-- The ids of the pending heavy operations are apart, and below the next one (R40). -/
def ExecState.heavyGood (x : ExecState) : Prop :=
  x.pendingHeavy.Pairwise (fun p q => p.1 ≠ q.1) ∧ ∀ p ∈ x.pendingHeavy, p.1 < x.heavySeq

/-- The tier table's account under a compilation threshold (R41, R252, R257). -/
def ExecState.tierGood (threshold : Nat) (x : ExecState) : Prop :=
  x.tier.Pairwise (fun p q => p.1 < q.1) ∧ (∀ p ∈ x.tier, p.2.compileRequested = true → threshold ≤ p.2.count) ∧
    x.compilationTriggers = tierRequests x.tier

theorem State.execGood_iff (s : State) :
    s.execGood ↔ s.ex.heavyGood ∧ s.ex.tierGood s.cfg.compilationThreshold := by
  simp only [State.execGood, ExecState.heavyGood, ExecState.tierGood, tierRequests, and_assoc]

theorem State.execGood_congr {s t : State} (hcfg : t.cfg = s.cfg) (hex : t.ex = s.ex) (h : s.execGood) : t.execGood := by
  simpa only [State.execGood, hcfg, hex] using h

theorem State.execGood_sameData {s t : State} (hst : s.SameData t) : s.execGood → t.execGood :=
  State.execGood_congr hst.cfg hst.ex

theorem ExecState.heavyGood_empty {x : ExecState} (h : x.pendingHeavy = []) : x.heavyGood := by
  simp [ExecState.heavyGood, h]

theorem State.execGood_resetExec {s : State} (h : s.ex = resetExec) : s.execGood := by
  refine s.execGood_iff.mpr ⟨ExecState.heavyGood_empty (by rw [h]; rfl), ?_⟩
  simp [ExecState.tierGood, h, resetExec, tierRequests]

/-- A new operation gets the next id (R246). -/
theorem State.dispatchHeavy_execGood {s : State} (r : InstrRecord) (h : s.execGood) : (s.dispatchHeavy r).execGood := by
  obtain ⟨⟨hapart, hbelow⟩, htier⟩ := s.execGood_iff.mp h
  refine (s.dispatchHeavy r).execGood_iff.mpr ⟨⟨?_, fun p hp => ?_⟩, htier⟩
  · refine List.pairwise_append.mpr ⟨hapart, List.pairwise_singleton _ _, fun p hp q hq => ?_⟩
    rw [List.mem_singleton.mp hq]
    exact Nat.ne_of_lt (hbelow p hp)
  · rcases List.mem_append.mp hp with hold | hnew
    · exact Nat.lt_succ_of_lt (hbelow p hold)
    · rw [List.mem_singleton.mp hnew]
      exact Nat.lt_succ_self s.ex.heavySeq

theorem State.takeHeavy_execGood {s : State} (id : Nat) (h : s.execGood) : (s.takeHeavy id).execGood := by
  obtain ⟨⟨hapart, hbelow⟩, htier⟩ := s.execGood_iff.mp h
  exact (s.takeHeavy id).execGood_iff.mpr
    ⟨⟨hapart.sublist List.filter_sublist, fun p hp => hbelow p (List.mem_of_mem_filter hp)⟩, htier⟩

theorem State.shutdownStage_execGood {s : State} (id : StageId) (h : s.execGood) : (s.shutdownStage id).execGood := by
  cases id
  case e => exact (State.execGood_iff _).mpr ⟨ExecState.heavyGood_empty rfl, (s.execGood_iff.mp h).2⟩
  all_goals exact State.execGood_congr (by simp) rfl h

theorem State.initStage_execGood {s : State} (id : StageId) (h : s.execGood) : (s.initStage id).execGood := by
  cases id
  case e => exact State.execGood_resetExec rfl
  all_goals exact State.execGood_congr (by simp) rfl h

/-- An execution writes neither account: a fault is only counted (R249). -/
theorem executeInline_execGood {s : State} (r : InstrRecord) (h : s.execGood) : (executeInline r s).2.execGood := by
  have hunit : (execUnit r s).2.execGood := State.execGood_congr (by simp) (by simp) h
  unfold executeInline
  split
  · simp_all
  · rename_i heq
    rw [heq] at hunit
    exact hunit

/-! ## The tier step (R250 to R252) -/

/-- Choosing a mode leaves the pool and the table, and the visit's count; a compilation is newly requested at the threshold
only, and each new request is one trigger. -/
theorem State.modeFor_account (s : State) (e : TierEntry) (pc : Word) :
    (s.modeFor e pc).2.2.ex.pendingHeavy = s.ex.pendingHeavy ∧ (s.modeFor e pc).2.2.ex.heavySeq = s.ex.heavySeq ∧
    (s.modeFor e pc).2.2.ex.tier = s.ex.tier ∧ (s.modeFor e pc).2.1.count = e.count ∧
    ((s.modeFor e pc).2.1.compileRequested = true → e.compileRequested = true ∨ s.cfg.compilationThreshold ≤ e.count) ∧
    (s.modeFor e pc).2.2.ex.compilationTriggers + e.compileRequested.toNat =
      s.ex.compilationTriggers + (s.modeFor e pc).2.1.compileRequested.toNat := by
  unfold State.modeFor
  split
  · simp_all
  · split
    · simp_all
    · split
      · simp_all
      · unfold State.requestCompile
        split <;> simp_all

@[simp] theorem State.noteMode_account (s : State) (o : Option ExecMode) (m : ExecMode) (pc : Word) :
    (s.noteMode o m pc).ex.pendingHeavy = s.ex.pendingHeavy ∧ (s.noteMode o m pc).ex.heavySeq = s.ex.heavySeq ∧
    (s.noteMode o m pc).ex.tier = s.ex.tier ∧
    (s.noteMode o m pc).ex.compilationTriggers = s.ex.compilationTriggers := by
  unfold State.noteMode
  repeat' split
  all_goals simp

/-- A tier step writes one record `e` of the table, for the visited PC, and accounts for a request in it. -/
theorem State.tierStep_account (s : State) (r : InstrRecord) : ∃ e : TierEntry,
    (s.tierStep r).2.ex.tier = tierSet s.ex.tier r.pc.toNat e ∧
    (s.tierStep r).2.ex.pendingHeavy = s.ex.pendingHeavy ∧ (s.tierStep r).2.ex.heavySeq = s.ex.heavySeq ∧
    e.count = (tierGet s.ex.tier r.pc.toNat).count + 1 ∧
    (e.compileRequested = true →
      (tierGet s.ex.tier r.pc.toNat).compileRequested = true ∨ s.cfg.compilationThreshold ≤ e.count) ∧
    (s.tierStep r).2.ex.compilationTriggers + (tierGet s.ex.tier r.pc.toNat).compileRequested.toNat =
      s.ex.compilationTriggers + e.compileRequested.toNat := by
  obtain ⟨hpending, hseq, htable, hcount, hasked, htriggers⟩ := s.modeFor_account
    { tierGet s.ex.tier r.pc.toNat with count := (tierGet s.ex.tier r.pc.toNat).count + 1 } r.pc
  obtain ⟨hpending', hseq', htable', htriggers'⟩ := State.noteMode_account (s.modeFor
    { tierGet s.ex.tier r.pc.toNat with count := (tierGet s.ex.tier r.pc.toNat).count + 1 } r.pc).2.2
    (tierGet s.ex.tier r.pc.toNat).mode (s.modeFor
    { tierGet s.ex.tier r.pc.toNat with count := (tierGet s.ex.tier r.pc.toNat).count + 1 } r.pc).1 r.pc
  exact ⟨_, congrArg (tierSet · _ _) (htable'.trans htable), hpending'.trans hpending, hseq'.trans hseq, hcount,
    fun hreq => hcount ▸ hasked hreq, (congrArg (· + _) htriggers').trans htriggers⟩

theorem State.tierStep_execGood {s : State} (r : InstrRecord) (h : s.execGood) : (s.tierStep r).2.execGood := by
  obtain ⟨hheavy, hrising, hthreshold, htriggers⟩ := s.execGood_iff.mp h
  obtain ⟨e, htable, hpending, hseq, hcount, hasked, htrig⟩ := s.tierStep_account r
  have hvisited : e.compileRequested = true → s.cfg.compilationThreshold ≤ e.count := fun hreq => by
    rcases hasked hreq with hbefore | hnow
    · rcases tierGet_cases r.pc.toNat s.ex.tier with hnone | hmem
      · rw [hnone] at hbefore
        cases hbefore
      · exact hcount ▸ Nat.le_succ_of_le (hthreshold _ hmem hbefore)
    · exact hnow
  refine (s.tierStep r).2.execGood_iff.mpr ⟨?_, htable ▸ tierSet_rising _ _ hrising, fun p hp hreq => ?_, ?_⟩
  · simpa only [ExecState.heavyGood, hpending, hseq] using hheavy
  · rw [(s.tierStep_frame r).1]
    rcases mem_tierSet (htable ▸ hp) with rfl | hmem
    · exact hvisited hreq
    · exact hthreshold p hmem hreq
  · have hrequests := tierRequests_tierSet r.pc.toNat e hrising
    rw [htable]
    omega

/-! ## The stage and the step -/

theorem interpretE_execGood {s : State} (r : InstrRecord) (h : s.execGood) : (interpretE r s).2.execGood := by
  unfold interpretE
  simp only
  split
  · exact State.dispatchHeavy_execGood _ h
  · exact executeInline_execGood _ h

theorem hybridE_execGood {s : State} (r : InstrRecord) (h : s.execGood) : (hybridE r s).2.execGood := by
  have hstep := State.tierStep_execGood r h
  unfold hybridE
  split
  · rename_i s' heq
    rw [heq] at hstep
    have htried : (s'.tryCompiled r).2.execGood := State.execGood_congr (by simp) (by simp) hstep
    split <;> rename_i hres <;> rw [hres] at htried
    · exact htried
    · exact interpretE_execGood r htried
  · rename_i s' heq
    rw [heq] at hstep
    exact interpretE_execGood r (State.execGood_congr (s := s') rfl rfl hstep)
  · rename_i s' heq
    rw [heq] at hstep
    exact interpretE_execGood r hstep

theorem processE_execGood (r : InstrRecord) (s : State) (h : s.execGood) : (processE r s).2.execGood := by
  unfold processE
  split
  · split
    · exact interpretE_execGood r h
    · exact hybridE_execGood r h
  · exact h

theorem State.Does.execGood {s t : State} (h : s.Does t) (hs : s.execGood) : t.execGood := by
  cases h with
  | nothing => exact hs
  | read | write | writeBackAll | dropLines | setPC => exact State.execGood_congr rfl rfl hs
  | init id => exact State.initStage_execGood id hs
  | shutdown id => exact State.shutdownStage_execGood id hs
  | startAll => exact State.startAll_keeps State.execGood_sameData State.initStage_execGood hs
  | stopAll => exact State.stopAll_keeps State.execGood_sameData State.shutdownStage_execGood hs
  | decode _ hp => exact State.iterate_keeps State.execGood_sameData hp.keeps .d hs
  | execute => exact State.iterate_keeps State.execGood_sameData processE_execGood .e hs
  | writeback =>
    refine State.iterate_keeps State.execGood_sameData (fun r u => ?_) .w hs
    exact State.execGood_congr (by simp [processW]) (by simp [processW])
  | completeHeavy =>
    exact State.execGood_congr (State.forward_frame _ _ _).1 (by simp [State.completeHeavy])
      (executeInline_execGood _ (State.takeHeavy_execGood _ hs))
  | redirect h =>
    obtain ⟨-, rfl⟩ := State.redirect_eq_some h
    exact State.execGood_congr rfl rfl hs
  | advance h => exact State.execGood_sameData (State.advance_sameData h) hs
  | start | submit | resize | flag | fetch | beginFlush | exception | tick =>
    exact State.execGood_congr (by simp) (by simp) hs

/-- Settles O12: a new heavy operation takes the next id, and a tier step requests a compilation at most once for a PC. -/
theorem stepKeepsExecute : Obligations.StepKeepsExecute := fun _ _ =>
  step_keeps (fun h => State.execGood_sameData h.sameData) (fun _ hs h => h.execGood hs)
    (fun _ _ => State.execGood_resetExec rfl)

end Sys2Proof.Machine
end

section
/-! PROOFS. State (10_state.md): Fetch's addresses and the shape of its cache (R37, R209). -/

namespace Sys2Proof.Machine

theorem State.fetchGood_congr {s t : State} (hcfg : t.cfg = s.cfg) (hfetch : t.fetch = s.fetch) (h : s.fetchGood) :
    t.fetchGood := by
  simpa only [State.fetchGood, hcfg, hfetch] using h

theorem State.fetchGood_sameData {s t : State} (hst : s.SameData t) : s.fetchGood → t.fetchGood :=
  State.fetchGood_congr hst.cfg hst.fetch

/-! ## Addresses (R209) -/

theorem aligned4_iff (a : Word) : aligned4 a = true ↔ a.toNat % 4 = 0 := by
  rw [aligned4, beq_iff_eq, ← BitVec.toNat_inj]
  simp

/-- The next word of an aligned address is aligned, around the end of the address space too. -/
theorem aligned4_add_four {a : Word} (h : aligned4 a = true) : aligned4 (a + 4) = true := by
  rw [aligned4_iff] at h ⊢
  rw [BitVec.toNat_add]
  simp
  omega

theorem Config.ok_resetPC {c : Config} (h : c.ok = true) : aligned4 c.resetPC = true := by
  obtain ⟨-, -, -, -, -, -, -, -, hpc, -⟩ := (Config.ok_iff c).mp h
  exact hpc

/-! ## The fetch cache (R37) -/

theorem resetFcEntry_good (c : Config) : (resetFcEntry c).good c := by
  simp [FcEntry.good, resetFcEntry]

theorem State.fetchGood_resetFetch {s : State} {pc : Word} (hpc : aligned4 pc = true) (h : s.fetch = resetFetch s.cfg pc) :
    s.fetchGood := by
  rw [State.fetchGood, h]
  refine ⟨hpc, nofun, List.length_replicate, fun e he => ?_⟩
  rw [List.eq_of_mem_replicate he]
  exact resetFcEntry_good s.cfg

@[simp] theorem fcInstall_length (c : Config) (fc : List FcEntry) (pc : Word) (k : Nat) (v : IWord) :
    (fcInstall c fc pc k v).length = fc.length := List.length_set

/-- A valid line read out of the cache is one of its lines: the line read past its end is not valid. -/
theorem fc_getD_mem {fc : List FcEntry} {i : Nat} (h : (fc.getD i default).valid = true) : fc.getD i default ∈ fc := by
  rw [List.getD_eq_getElem?_getD] at h ⊢
  cases hget : fc[i]? with
  | none => rw [hget] at h; cases h
  | some e => exact List.mem_of_getElem? hget

/-- An install keeps a slot for every word: the line is one of the cache, or a fresh one (R204). -/
theorem fcInstall_good {c : Config} {fc : List FcEntry} (pc : Word) (k : Nat) (v : IWord) (h : ∀ e ∈ fc, e.good c) :
    ∀ e ∈ fcInstall c fc pc k v, e.good c := by
  intro e he
  rcases List.mem_or_eq_of_mem_set he with hold | rfl
  · exact h e hold
  · by_cases hkept : ((fc.getD (fcIndex c pc) default).valid && (fc.getD (fcIndex c pc) default).tag == fcTag c pc) = true
    · have := h _ (fc_getD_mem (Bool.and_eq_true_iff.mp hkept).1)
      simpa only [if_pos hkept, FcEntry.good, List.length_set] using this
    · have := resetFcEntry_good c
      simpa only [if_neg hkept, FcEntry.good, List.length_set] using this

theorem State.installFc_fetchGood {s : State} (pc : Word) (k : Nat) (v : IWord) (h : s.fetchGood) :
    (s.installFc pc k v).fetchGood := by
  obtain ⟨hpc, htarget, hlength, hlines⟩ := h
  exact ⟨hpc, htarget, (fcInstall_length ..).trans hlength, fcInstall_good pc k v hlines⟩

/-! ## The iteration (R200, R203 to R207) -/

theorem State.readWord_fetchGood {s : State} (a : Word) (h : s.fetchGood) : (s.readWord a).2.fetchGood :=
  State.fetchGood_congr (by simp) (by simp) h

theorem State.fetchInstruction_fetchGood {s : State} (pc : Word) (h : s.fetchGood) : (s.fetchInstruction pc).2.fetchGood := by
  have hread := State.readWord_fetchGood pc h
  unfold State.fetchInstruction
  split
  · exact h
  · split <;> rename_i hres <;> rw [hres] at hread
    · exact hread
    · exact State.installFc_fetchGood pc _ _ hread

theorem State.prefetch_fetchGood {s : State} (pc : Word) (h : s.fetchGood) : (s.prefetch pc).fetchGood := by
  have hread := State.readWord_fetchGood (nextLine s.cfg pc) h
  unfold State.prefetch
  split
  · simp only
    split
    · exact h
    · split <;> rename_i hres <;> rw [hres] at hread
      · exact State.installFc_fetchGood _ 0 _ hread
      · exact hread
  · exact h

/-- A pending redirect becomes `nextPC`; both are multiples of 4. -/
theorem State.applyRedirect_fetchGood {s : State} (h : s.fetchGood) :
    ({ s with fetch := s.fetch.applyRedirect } : State).fetchGood := by
  obtain ⟨hpc, htarget, hfc⟩ := h
  unfold FetchState.applyRedirect
  split
  · exact ⟨htarget _ ‹_›, nofun, hfc⟩
  · exact ⟨hpc, htarget, hfc⟩

theorem State.setNextPC_fetchGood {s : State} {a : Word} (ha : aligned4 a = true) (h : s.fetchGood) :
    ({ s with fetch := { s.fetch with nextPC := a } } : State).fetchGood := ⟨ha, h.2⟩

theorem State.setTarget_fetchGood {s : State} {t : Word} (ht : aligned4 t = true) (h : s.fetchGood) :
    ({ s with fetch := { s.fetch with branchTarget := some t } } : State).fetchGood := by
  obtain ⟨hpc, -, hfc⟩ := h
  exact ⟨hpc, fun u hu => Option.some.inj hu ▸ ht, hfc⟩

theorem State.fetched_fetchGood {s : State} {pc : Word} (w : IWord) (hpc : aligned4 pc = true) (h : s.fetchGood) :
    (s.fetched pc w).fetchGood := by
  have hcounted : (s.draw.2.countProcessed .f s.draw.1).fetchGood := State.fetchGood_congr (by simp) (by simp) h
  exact State.fetchGood_congr (by simp [State.fetched]) (by simp [State.fetched])
    (State.prefetch_fetchGood pc (State.setNextPC_fetchGood (aligned4_add_four hpc) hcounted))

theorem State.fetchFlush_fetchGood {s : State} (h : s.fetchGood) : s.fetchFlush.fetchGood :=
  State.fetchGood_congr (s := { s with fetch := s.fetch.applyRedirect }) (by simp) (by simp [State.fetchFlush])
    (State.applyRedirect_fetchGood h)

theorem State.fetchIteration_fetchGood {s : State} (h : s.fetchGood) : s.fetchIteration.fetchGood := by
  have hredirected := State.applyRedirect_fetchGood h
  have hread := State.fetchInstruction_fetchGood s.fetch.applyRedirect.nextPC hredirected
  unfold State.fetchIteration
  split
  · exact State.fetchFlush_fetchGood h
  · simp only
    split <;> rename_i hres <;> rw [hres] at hread
    · exact State.fetched_fetchGood _ hredirected.1 hread
    · exact State.fetchGood_congr (by simp) (by simp) hread

/-! ## Writeback's redirect and the step -/

theorem State.branchRedirect_fetchGood {s : State} (t : Word) (h : s.fetchGood) : (s.branchRedirect t).fetchGood := by
  unfold State.branchRedirect
  cases heq : s.redirect t with
  | none => exact h
  | some u =>
    obtain ⟨haligned, rfl⟩ := State.redirect_eq_some heq
    exact State.setTarget_fetchGood haligned h

theorem State.resolveBranch_fetchGood {s : State} (r : InstrRecord) (h : s.fetchGood) : (s.resolveBranch r).fetchGood := by
  unfold State.resolveBranch
  simp only
  split
  · exact State.fetchGood_congr (by simp) (by simp)
      (State.branchRedirect_fetchGood (s := ({ s with wb := s.wb.countBranch (branchTaken r) } : State).emit
        (.branchResolved r.pc (branchTaken r) (realizedTarget r))) (realizedTarget r) h)
  · exact h

theorem State.writeback_fetchGood {s : State} (r : InstrRecord) (h : s.fetchGood) : (s.writeback r).fetchGood := by
  have hload : (if r.isLoad then s.writeLoad r else s).fetchGood := by
    split
    · exact State.fetchGood_congr (by simp) (by simp) h
    · exact h
  unfold State.writeback State.commit
  split
  · split
    · exact State.fetchGood_congr (by simp) (by simp) h
    · simp only
      split
      · exact State.resolveBranch_fetchGood r hload
      · exact hload
  · exact State.fetchGood_congr (by simp) (by simp) h

theorem State.initStage_fetchGood {s : State} (id : StageId) (h : s.fetchGood) : (s.initStage id).fetchGood := by
  cases id
  case f => exact State.fetchGood_resetFetch h.1 rfl
  all_goals exact State.fetchGood_congr (by simp) rfl h

theorem State.Does.fetchGood {s t : State} (h : s.Does t) (hs : s.fetchGood) : t.fetchGood := by
  cases h with
  | nothing => exact hs
  | read | write | writeBackAll | dropLines => exact State.fetchGood_congr rfl rfl hs
  | setPC h => exact State.setNextPC_fetchGood h hs
  | redirect h =>
    obtain ⟨haligned, rfl⟩ := State.redirect_eq_some h
    exact State.setTarget_fetchGood haligned hs
  | init id => exact State.initStage_fetchGood id hs
  | startAll => exact State.startAll_keeps State.fetchGood_sameData State.initStage_fetchGood hs
  | fetch => exact State.fetchIteration_fetchGood hs
  | decode _ hp => exact State.iterate_keeps State.fetchGood_sameData hp.keeps .d hs
  | execute =>
    refine State.iterate_keeps State.fetchGood_sameData (fun r u => ?_) .e hs
    obtain ⟨hcfg, -, hfetch, -⟩ := processE_frame u r
    exact State.fetchGood_congr hcfg hfetch
  | writeback => exact State.iterate_keeps State.fetchGood_sameData (fun r _ => State.writeback_fetchGood r) .w hs
  | completeHeavy =>
    refine State.fetchGood_congr ?_ ?_ hs <;> simp [State.completeHeavy, executeInline_frame]
  | advance h => exact State.fetchGood_sameData (State.advance_sameData h) hs
  | start | submit | resize | shutdown | flag | stopAll | beginFlush | exception | tick =>
    exact State.fetchGood_congr (by simp) (by simp) hs

/-- Settles O11: `nextPC` moves on by a word or to a target tested for alignment, and an install keeps a line's slots. -/
theorem stepKeepsFetch : Obligations.StepKeepsFetch := fun _ _ =>
  step_keeps (fun h => State.fetchGood_sameData h.sameData) (fun _ hs h => h.fetchGood hs)
    (fun hok _ => State.fetchGood_resetFetch (Config.ok_resetPC hok) rfl)

end Sys2Proof.Machine
end

section
/-! PROOFS. State (10_state.md): a good cache hierarchy, level by level and set by set, and what the operations of an access
do to it (R21 to R28, R134, R137, R142 to R146). -/

namespace Sys2Proof

/-! ## Addresses of a legal geometry (R131, R132) -/

theorem Config.ok_levelOk {c : Config} (h : c.ok = true) (l : Level) : c.levelOk l = true := by
  obtain ⟨-, -, hlevel, -⟩ := (Machine.Config.ok_iff c).mp h
  exact hlevel l

theorem Config.lineSize_eq {c : Config} (h : c.ok = true) : c.lineSize = 2 ^ c.offsetBits := by
  obtain ⟨hpow, -⟩ := (Machine.Config.ok_iff c).mp h
  exact beq_iff_eq.mp hpow

/-- What a legal geometry says of a level (R9, R24, R131). -/
theorem Config.level_bounds {c : Config} (h : c.ok = true) (l : Level) :
    1 ≤ c.assoc.get l ∧ 1 ≤ c.numSets l ∧ c.offsetBits + c.indexBits l ≤ 63 := by
  have hlevel := Config.ok_levelOk h l
  simp only [Config.levelOk, Bool.and_eq_true, decide_eq_true_eq] at hlevel
  obtain ⟨⟨⟨⟨⟨hassoc, hsets⟩, -⟩, -⟩, hbits⟩, -⟩ := hlevel
  exact ⟨hassoc, hsets, hbits⟩

theorem Config.bits_le {c : Config} (h : c.ok = true) (l : Level) : c.offsetBits + c.indexBits l ≤ 63 := by
  obtain ⟨-, -, hbits⟩ := Config.level_bounds h l
  exact hbits

theorem Config.assoc_pos {c : Config} (h : c.ok = true) (l : Level) : 0 < c.assoc.get l := by
  obtain ⟨hassoc, -⟩ := Config.level_bounds h l
  exact hassoc

theorem Config.numSets_pos {c : Config} (h : c.ok = true) (l : Level) : 0 < c.numSets l := by
  obtain ⟨-, hsets, -⟩ := Config.level_bounds h l
  exact hsets

theorem Config.indexOf_lt {c : Config} (h : c.ok = true) (l : Level) (a : Word) : c.indexOf l a < c.numSets l := by
  have hpos := c.numSets_pos h l
  have hle : c.indexOf l a ≤ c.numSets l - 1 := by
    rw [Config.indexOf, BitVec.toNat_and, BitVec.toNat_ofNat]
    exact Nat.and_le_right.trans (Nat.mod_le _ _)
  omega

/-- The bits of the offset mask are those below `OFFSETBITS` (R131). -/
theorem Config.offsetMask_getLsbD {c : Config} (h : c.ok = true) (j : Nat) :
    c.offsetMask.getLsbD j = decide (j < 64 ∧ j < c.offsetBits) := by
  rw [Config.offsetMask, BitVec.getLsbD_ofNat, c.lineSize_eq h, Nat.testBit_two_pow_sub_one, Bool.decide_and]

theorem Config.offsetOf_eq_zero {c : Config} (h : c.ok = true) {a : Word} (ha : ∀ j < c.offsetBits, a.getLsbD j = false) :
    c.offsetOf a = 0 := by
  have : a &&& c.offsetMask = 0 := by
    ext j hj
    rw [BitVec.getElem_and, ← BitVec.getLsbD_eq_getElem, ← BitVec.getLsbD_eq_getElem, c.offsetMask_getLsbD h]
    by_cases hlow : j < c.offsetBits
    · simp [ha j hlow]
    · simp [hlow]
  simp [Config.offsetOf, this]

theorem Config.offsetOf_lineAddr {c : Config} (h : c.ok = true) (a : Word) : c.offsetOf (c.lineAddr a) = 0 := by
  refine c.offsetOf_eq_zero h fun j hj => ?_
  have := c.bits_le h .l1i
  have hj64 : j < 64 := by omega
  simp [Config.lineAddr, c.offsetMask_getLsbD h, hj, hj64]

theorem Config.offsetOf_compose {c : Config} (h : c.ok = true) (l : Level) (tag : Word) (i : Nat) :
    c.offsetOf (c.compose l tag i 0) = 0 := by
  refine c.offsetOf_eq_zero h fun j hj => ?_
  have hindex : j < c.offsetBits + c.indexBits l := by omega
  simp [Config.compose, BitVec.getLsbD_or, BitVec.getLsbD_shiftLeft, hj, hindex]

/-- The tag of an address fits the tag's bits (R21, R24). -/
theorem Config.tagOf_lt {c : Config} (h : c.ok = true) (l : Level) (a : Word) : (c.tagOf l a).toNat < 2 ^ c.tagBits l := by
  have hbits := c.bits_le h l
  rw [Config.tagOf, BitVec.toNat_ushiftRight, Nat.shiftRight_eq_div_pow, Nat.div_lt_iff_lt_mul (Nat.two_pow_pos _),
    ← pow_add, Config.tagBits]
  have : 64 - c.offsetBits - c.indexBits l + (c.offsetBits + c.indexBits l) = 64 := by omega
  rw [this]
  exact a.isLt

end Sys2Proof

namespace Sys2Proof.Machine

/-! ## Lines (R21, R22, R134) -/

/-- A good line of a level: consistent and shaped, and clean in L1I. -/
def CacheLine.good (c : Config) (l : Level) (ln : CacheLine) : Prop :=
  ln.consistent ∧ ln.shaped c l ∧ (l = .l1i → ln.dirty = false)

theorem CacheLine.good_data {c : Config} {l : Level} {ln : CacheLine} (h : ln.good c l) : ln.data.length = c.lineSize := by
  obtain ⟨-, ⟨hdata, -⟩, -⟩ := h
  exact hdata

theorem CacheLine.good_invalidated {c : Config} {l : Level} {ln : CacheLine} (h : ln.good c l) :
    ln.invalidated.good c l := by
  obtain ⟨-, hshaped, -⟩ := h
  exact ⟨⟨by simp [CacheLine.invalidated], by simp [CacheLine.invalidated]⟩, hshaped, fun _ => rfl⟩

/-- A Shared line is clean, so that without it the line is consistent (R22, R145). -/
theorem CacheLine.good_keptOrDropped {c : Config} {l : Level} {ln ln' : CacheLine} (h : ln.good c l)
    (hk : ln.keptOrDropped ln') : ln'.good c l := by
  rcases hk with rfl | ⟨_, hshared, rfl⟩
  · exact h
  · obtain ⟨⟨-, hdirty⟩, hshaped, hl1i⟩ := h
    exact ⟨⟨by simp, by simpa [hshared] using hdirty⟩, hshaped, hl1i⟩

theorem CacheLine.good_restamped {c : Config} {l : Level} {ln : CacheLine} (h : ln.good c l) (n : Nat) :
    ({ ln with lastAccess := n } : CacheLine).good c l := h

theorem storeAt_length (data : List Byte) (o : Nat) (bs : List Byte) (h : o + bs.length ≤ data.length) :
    (storeAt data o bs).length = data.length := by
  simp only [storeAt, List.length_append, List.length_take, List.length_drop]
  omega

/-- A write inside a valid line of a level that may hold dirty lines (R134, R138). -/
theorem CacheLine.good_written {c : Config} {l : Level} {ln : CacheLine} (h : ln.good c l) (hl : l ≠ .l1i)
    (hvalid : ln.valid = true) {o : Nat} {bs : List Byte} (hfits : o + bs.length ≤ c.lineSize) :
    (ln.written o bs).good c l := by
  obtain ⟨-, ⟨hdata, htag⟩, -⟩ := h
  refine ⟨⟨by simp [CacheLine.written, hvalid], by simp [CacheLine.written]⟩, ⟨?_, htag⟩, fun h => absurd h hl⟩
  exact (storeAt_length _ _ _ (hdata ▸ hfits)).trans hdata

/-! ## Sets (R23, R28, R137) -/

/-- The valid ways differ in some field: the tag (R28) or the stamp (R137). -/
def distinctBy {α : Type} (f : CacheLine → α) (ways : List CacheLine) : Prop :=
  ways.Pairwise (fun x y => x.valid = true → y.valid = true → f x ≠ f y)

/-- No valid way but the one at `w` has the value in that field. -/
def freeBut {α : Type} (f : CacheLine → α) (ways : List CacheLine) (w : Nat) (v : α) : Prop :=
  ∀ j x, ways[j]? = some x → j ≠ w → x.valid = true → f x ≠ v

theorem distinctBy_set {α : Type} {f : CacheLine → α} {ways : List CacheLine} {w : Nat} {ln : CacheLine}
    (h : distinctBy f ways) (hfree : ln.valid = true → freeBut f ways w (f ln)) : distinctBy f (ways.set w ln) := by
  refine List.pairwise_iff_getElem.mpr fun i j hi hj hij hx hy => ?_
  rw [List.length_set] at hi hj
  simp only [List.getElem_set] at hx hy ⊢
  by_cases hwi : w = i
  · have hwj : w ≠ j := by omega
    simp only [if_pos hwi, if_neg hwj] at hx hy ⊢
    exact (hfree hx j _ (List.getElem?_eq_getElem hj) (Ne.symm hwj) hy).symm
  · simp only [if_neg hwi] at hx ⊢
    by_cases hwj : w = j
    · simp only [if_pos hwj] at hy ⊢
      exact hfree hy i _ (List.getElem?_eq_getElem hi) (Ne.symm hwi) hx
    · simp only [if_neg hwj] at hy ⊢
      exact List.pairwise_iff_getElem.mp h i j hi hj hij hx hy

/-- Where the ways differ, the value of a valid way is free but for it. -/
theorem freeBut_of_distinctBy {α : Type} {f : CacheLine → α} {ways : List CacheLine} {w : Nat} {ln : CacheLine}
    (h : distinctBy f ways) (hat : ways[w]? = some ln) (hvalid : ln.valid = true) : freeBut f ways w (f ln) := by
  intro j x hj hne hx
  obtain ⟨hjlt, rfl⟩ := List.getElem?_eq_some_iff.mp hj
  obtain ⟨hwlt, rfl⟩ := List.getElem?_eq_some_iff.mp hat
  rcases Nat.lt_or_gt_of_ne hne with hlt | hgt
  · exact List.pairwise_iff_getElem.mp h j w hjlt hwlt hlt hx hvalid
  · exact (List.pairwise_iff_getElem.mp h w j hwlt hjlt hgt hvalid hx).symm

theorem CacheSet.good_iff (c : Config) (l : Level) (st : CacheSet) : st.good c l ↔
    st.ways.length = c.assoc.get l ∧ distinctBy CacheLine.tag st.ways ∧ distinctBy CacheLine.lastAccess st.ways ∧
    ∀ ln ∈ st.ways, ln.good c l ∧ ln.lastAccess ≤ st.accessCounter := by
  simp only [CacheSet.good, CacheSet.unique, CacheSet.stamped, CacheLine.good, distinctBy]
  constructor
  · rintro ⟨hlength, hunique, ⟨hbound, hstamps⟩, hlines⟩
    exact ⟨hlength, hunique, hstamps, fun ln hln => ⟨hlines ln hln, hbound ln hln⟩⟩
  · rintro ⟨hlength, hunique, hstamps, hlines⟩
    exact ⟨hlength, hunique, ⟨fun ln hln => (hlines ln hln).2, hstamps⟩, fun ln hln => (hlines ln hln).1⟩

/-- A set stays good when a way takes a good line whose tag and stamp no other valid way has. -/
theorem CacheSet.good_set {c : Config} {l : Level} {st : CacheSet} {w : Nat} {ln : CacheLine} (h : st.good c l)
    (hln : ln.good c l) (hstamp : ln.lastAccess ≤ st.accessCounter)
    (htag : ln.valid = true → freeBut CacheLine.tag st.ways w ln.tag)
    (hfree : ln.valid = true → freeBut CacheLine.lastAccess st.ways w ln.lastAccess) :
    ({ st with ways := st.ways.set w ln } : CacheSet).good c l := by
  obtain ⟨hlength, hunique, hstamps, hlines⟩ := (st.good_iff c l).mp h
  refine (CacheSet.good_iff c l _).mpr
    ⟨List.length_set.trans hlength, distinctBy_set hunique htag, distinctBy_set hstamps hfree, fun x hx => ?_⟩
  rcases List.mem_or_eq_of_mem_set hx with hold | rfl
  · exact hlines x hold
  · exact ⟨hln, hstamp⟩

/-- A line of a set replaced by one with its tag and stamp, and valid only where it was. -/
theorem CacheSet.good_update {c : Config} {l : Level} {st : CacheSet} {w : Nat} {ln : CacheLine} (h : st.good c l)
    (hw : w < st.ways.length) (hln : ln.good c l) (htag : ln.tag = (st.way w).tag)
    (hstamp : ln.lastAccess = (st.way w).lastAccess) (hvalid : ln.valid = true → (st.way w).valid = true) :
    ({ st with ways := st.ways.set w ln } : CacheSet).good c l := by
  have hat : st.ways[w]? = some (st.way w) := by simp [CacheSet.way, hw]
  obtain ⟨-, hunique, hstamps, hlines⟩ := (st.good_iff c l).mp h
  refine CacheSet.good_set h hln ?_ (fun hv => ?_) (fun hv => ?_)
  · exact hstamp ▸ (hlines _ (List.mem_of_getElem? hat)).2
  · exact htag ▸ freeBut_of_distinctBy hunique hat (hvalid hv)
  · exact hstamp ▸ freeBut_of_distinctBy hstamps hat (hvalid hv)

/-- One more access of a set (R137). -/
def CacheSet.bumped (st : CacheSet) : CacheSet := { st with accessCounter := st.accessCounter + 1 }

theorem CacheSet.good_bumped {c : Config} {l : Level} {st : CacheSet} (h : st.good c l) : st.bumped.good c l := by
  obtain ⟨hlength, hunique, hstamps, hlines⟩ := (st.good_iff c l).mp h
  exact (CacheSet.good_iff c l _).mpr
    ⟨hlength, hunique, hstamps, fun ln hln => ⟨(hlines ln hln).1, Nat.le_succ_of_le (hlines ln hln).2⟩⟩

/-- A set that can take a line with a tag: no valid way has the tag, and every stamp lies below the counter. -/
def CacheSet.awaits (tag : Word) (st : CacheSet) : Prop :=
  ∀ ln ∈ st.ways, ln.lastAccess < st.accessCounter ∧ (ln.valid = true → ln.tag ≠ tag)

/-- A set that is missing a tag awaits it once the access is counted (R135, R137). -/
theorem CacheSet.awaits_bumped {c : Config} {l : Level} {st : CacheSet} {tag : Word} (h : st.good c l)
    (hmiss : st.lookup tag = none) : st.bumped.awaits tag := by
  obtain ⟨-, -, -, hlines⟩ := (st.good_iff c l).mp h
  intro ln hln
  refine ⟨Nat.lt_succ_of_le (hlines ln hln).2, fun hvalid heq => ?_⟩
  have := List.findIdx?_eq_none_iff.mp hmiss ln hln
  simp [CacheLine.hasTag, hvalid, heq] at this

theorem CacheSet.good_install {c : Config} {l : Level} {st : CacheSet} {w : Nat} {ln : CacheLine} (h : st.good c l)
    (hawaits : st.awaits ln.tag) (hln : ln.good c l) (hstamp : ln.lastAccess = st.accessCounter) :
    ({ st with ways := st.ways.set w ln } : CacheSet).good c l := by
  refine CacheSet.good_set h hln hstamp.le (fun _ j x hj _ hx => ?_) (fun _ j x hj _ _ => ?_)
  · exact (hawaits x (List.mem_of_getElem? hj)).2 hx
  · exact hstamp ▸ Nat.ne_of_lt (hawaits x (List.mem_of_getElem? hj)).1

/-- A hit's restamp: the new stamp is beyond all others (R137, R139). -/
theorem CacheSet.good_restamp {c : Config} {l : Level} {st : CacheSet} {w : Nat} (h : st.good c l)
    (hw : w < st.ways.length) :
    ({ accessCounter := st.accessCounter + 1
       ways := st.ways.set w { st.way w with lastAccess := st.accessCounter + 1 } } : CacheSet).good c l := by
  have hat : st.ways[w]? = some (st.way w) := by simp [CacheSet.way, hw]
  obtain ⟨-, hunique, -, hlines⟩ := (st.good_iff c l).mp h
  refine CacheSet.good_set (CacheSet.good_bumped h) ?_ (le_refl _) (fun hv => ?_) (fun _ j x hj _ _ => ?_)
  · exact CacheLine.good_restamped (hlines _ (List.mem_of_getElem? hat)).1 _
  · exact freeBut_of_distinctBy (ln := st.way w) hunique hat hv
  · exact Nat.ne_of_lt (Nat.lt_succ_of_le (hlines x (List.mem_of_getElem? hj)).2)

/-! ## What traffic at other levels does to a set (R145) -/

/-- Traffic elsewhere leaves the set's counter, and of its lines drops Shared ones only. -/
def CacheSet.kept (st st' : CacheSet) : Prop :=
  st'.accessCounter = st.accessCounter ∧ List.Forall₂ CacheLine.keptOrDropped st.ways st'.ways

theorem CacheSet.kept_refl (st : CacheSet) : st.kept st := ⟨rfl, List.forall₂_same.mpr fun ln _ => ln.keptOrDropped_refl⟩

theorem forall₂_keptOrDropped_trans : ∀ {xs ys zs : List CacheLine}, List.Forall₂ CacheLine.keptOrDropped xs ys →
    List.Forall₂ CacheLine.keptOrDropped ys zs → List.Forall₂ CacheLine.keptOrDropped xs zs
  | _, _, _, .nil, .nil => .nil
  | _, _, _, .cons h hs, .cons h' hs' => .cons (CacheLine.keptOrDropped_trans h h') (forall₂_keptOrDropped_trans hs hs')

theorem CacheSet.kept.trans {x y z : CacheSet} (h : x.kept y) (h' : y.kept z) : x.kept z :=
  ⟨h'.1.trans h.1, forall₂_keptOrDropped_trans h.2 h'.2⟩

/-- A kept line has the tag it had, as it has the stamp, and is valid only where it was. -/
theorem CacheLine.keptOrDropped.tag_eq {ln ln' : CacheLine} (h : ln.keptOrDropped ln') : ln'.tag = ln.tag := by
  rcases h with rfl | ⟨-, -, rfl⟩ <;> rfl

theorem CacheLine.keptOrDropped.stamp_eq {ln ln' : CacheLine} (h : ln.keptOrDropped ln') :
    ln'.lastAccess = ln.lastAccess := by
  rcases h with rfl | ⟨-, -, rfl⟩ <;> rfl

theorem CacheLine.keptOrDropped.was_valid {ln ln' : CacheLine} (h : ln.keptOrDropped ln') (hv : ln'.valid = true) :
    ln.valid = true := by
  rcases h with rfl | ⟨hvalid, -, -⟩
  · exact hv
  · exact hvalid

/-- Every line of a kept set comes from one of the set. -/
theorem exists_of_mem_kept {ln' : CacheLine} : ∀ {xs ys : List CacheLine}, List.Forall₂ CacheLine.keptOrDropped xs ys →
    ln' ∈ ys → ∃ ln ∈ xs, ln.keptOrDropped ln'
  | _, _, .cons h hs, hmem => by
    rcases List.mem_cons.mp hmem with rfl | hrest
    · exact ⟨_, List.mem_cons_self, h⟩
    · obtain ⟨ln, hln, hk⟩ := exists_of_mem_kept hs hrest
      exact ⟨ln, List.mem_cons_of_mem _ hln, hk⟩

theorem distinctBy_kept {α : Type} {f : CacheLine → α} (hf : ∀ {x y : CacheLine}, x.keptOrDropped y → f y = f x) :
    ∀ {xs ys : List CacheLine}, List.Forall₂ CacheLine.keptOrDropped xs ys → distinctBy f xs → distinctBy f ys
  | _, _, .nil, _ => .nil
  | _, _, .cons h hs, hd => by
    obtain ⟨hhead, htail⟩ := List.pairwise_cons.mp hd
    refine List.pairwise_cons.mpr ⟨fun y' hy' hx hy => ?_, distinctBy_kept hf hs htail⟩
    obtain ⟨y, hymem, hky⟩ := exists_of_mem_kept hs hy'
    rw [hf h, hf hky]
    exact hhead y hymem (h.was_valid hx) (hky.was_valid hy)

theorem CacheSet.kept.good {c : Config} {l : Level} {st st' : CacheSet} (hk : st.kept st') (h : st.good c l) :
    st'.good c l := by
  obtain ⟨hcounter, hways⟩ := hk
  obtain ⟨hlength, hunique, hstamps, hlines⟩ := (st.good_iff c l).mp h
  refine (st'.good_iff c l).mpr ⟨hways.length_eq ▸ hlength, distinctBy_kept (fun h => h.tag_eq) hways hunique,
    distinctBy_kept (fun h => h.stamp_eq) hways hstamps, fun ln' hln' => ?_⟩
  obtain ⟨ln, hln, hkept⟩ := exists_of_mem_kept hways hln'
  rw [hcounter, hkept.stamp_eq]
  exact ⟨CacheLine.good_keptOrDropped (hlines ln hln).1 hkept, (hlines ln hln).2⟩

theorem CacheSet.kept.awaits {tag : Word} {st st' : CacheSet} (hk : st.kept st') (h : st.awaits tag) :
    st'.awaits tag := by
  intro ln' hln'
  obtain ⟨ln, hln, hkept⟩ := exists_of_mem_kept hk.2 hln'
  rw [hk.1, hkept.stamp_eq, hkept.tag_eq]
  exact ⟨(h ln hln).1, fun hv => (h ln hln).2 (hkept.was_valid hv)⟩

/-- The coherency rule on a set (R145). -/
theorem CacheSet.kept_coherent (st : CacheSet) (tag : Word) :
    st.kept { st with ways := st.ways.map (CacheLine.coherent tag) } :=
  ⟨rfl, List.forall₂_map_right_iff.mpr (List.forall₂_same.mpr fun ln _ => ln.keptOrDropped_coherent tag)⟩

/-! ## The hierarchy: its levels, its memory, and its parts replaced -/

theorem MemSys.good_of_levels {c : Config} {m m' : MemSys} (h : m.good c) (hmem : m'.mem.wf = true)
    (hlevels : ∀ l, (m'.level l).sets = (m.level l).sets) : m'.good c :=
  ⟨hmem, fun l => by simpa only [CacheLevel.good, hlevels l] using h.2 l⟩

theorem MemSys.setAt_good {c : Config} {m : MemSys} (h : m.good c) {l : Level} {i : Nat} (hi : i < c.numSets l) :
    (m.setAt l i).good c l := by
  obtain ⟨hlength, hsets⟩ := h.2 l
  refine hsets _ ?_
  have : i < (m.level l).sets.length := hlength ▸ hi
  simp [MemSys.setAt, CacheLevel.setAt, this]

theorem MemSys.sets_length {c : Config} {m : MemSys} (h : m.good c) (l : Level) : (m.level l).sets.length = c.numSets l :=
  (h.2 l).1

theorem MemSys.putSet_good {c : Config} {m : MemSys} (h : m.good c) {l : Level} (i : Nat) {st : CacheSet}
    (hst : st.good c l) : (m.putSet l i st).good c := by
  refine ⟨h.1, fun l' => ?_⟩
  by_cases hl : l' = l
  · subst hl
    obtain ⟨hlength, hsets⟩ := h.2 l'
    refine ⟨(m.putSet_sets_length l' l' i st).trans hlength, fun x hx => ?_⟩
    rw [MemSys.putSet, MemSys.setLevel_level_same] at hx
    rcases List.mem_or_eq_of_mem_set hx with hold | rfl
    · exact hsets x hold
    · exact hst
  · rw [MemSys.putSet, MemSys.setLevel_level_ne _ _ hl]
    exact h.2 l'

/-- Counting leaves every set. -/
theorem MemSys.setLevel_good {c : Config} {m : MemSys} (h : m.good c) (l : Level) {lv : CacheLevel}
    (hsets : lv.sets = (m.level l).sets) : (m.setLevel l lv).good c := by
  refine MemSys.good_of_levels h h.1 fun l' => ?_
  by_cases hl : l' = l
  · subst hl
    rw [MemSys.setLevel_level_same, hsets]
  · rw [MemSys.setLevel_level_ne _ _ hl]

theorem MemSys.putLine_setAt (m : MemSys) {l : Level} {i : Nat} (w : Nat) (ln : CacheLine) (h : i < (m.level l).sets.length) :
    (m.putLine l i w ln).setAt l i = { m.setAt l i with ways := (m.setAt l i).ways.set w ln } :=
  m.putSet_setAt_same l i _ h

/-! ## What traffic below a level leaves of it -/

/-- Every set of a level is as it was, but for Shared lines dropped. -/
def MemSys.keptAt (l : Level) (m m' : MemSys) : Prop := ∀ i, (m.setAt l i).kept (m'.setAt l i)

theorem MemSys.keptAt_of_eq {l : Level} {m m' : MemSys} (h : ∀ i, m'.setAt l i = m.setAt l i) : m.keptAt l m' :=
  fun i => h i ▸ (m.setAt l i).kept_refl

theorem MemSys.keptAt.trans {l : Level} {m m' m'' : MemSys} (h : m.keptAt l m') (h' : m'.keptAt l m'') : m.keptAt l m'' :=
  fun i => (h i).trans (h' i)

theorem MemSys.keptAt_putSet {l l' : Level} (hl : l ≠ l') (m : MemSys) (i : Nat) (st : CacheSet) :
    m.keptAt l (m.putSet l' i st) := MemSys.keptAt_of_eq fun j => m.putSet_setAt_level i j st hl

theorem MemSys.keptAt_putLine {l l' : Level} (hl : l ≠ l') (m : MemSys) (i w : Nat) (ln : CacheLine) :
    m.keptAt l (m.putLine l' i w ln) := m.keptAt_putSet hl i _

theorem coherencyAt_keptAt (c : Config) (la : Word) (m : MemSys) (l l' : Level) : m.keptAt l (coherencyAt c la m l') := by
  intro i
  by_cases hl : l = l'
  · subst hl
    by_cases hi : i = c.indexOf l la
    · subst hi
      by_cases hlt : c.indexOf l la < (m.level l).sets.length
      · rw [coherencyAt, MemSys.putSet_setAt_same _ _ _ _ hlt]
        exact CacheSet.kept_coherent _ _
      · rw [coherencyAt, MemSys.putSet, List.set_eq_of_length_le (Nat.le_of_not_lt hlt)]
        simp [MemSys.setAt, CacheSet.kept_refl]
    · rw [coherencyAt, MemSys.putSet_setAt_other _ _ _ hi]
      exact CacheSet.kept_refl _
  · exact m.keptAt_putSet hl _ _ i

theorem coherencyInvalidate_keptAt (c : Config) (l l' : Level) (la : Word) (m : MemSys) :
    m.keptAt l (coherencyInvalidate c l' la m) :=
  List.foldlRecOn _ _ (MemSys.keptAt_of_eq fun _ => rfl) fun m' h l'' _ => h.trans (coherencyAt_keptAt c la m' l l'')

theorem coherencyInvalidate_good {c : Config} (hok : c.ok = true) (l : Level) (la : Word) {m : MemSys} (h : m.good c) :
    (coherencyInvalidate c l la m).good c :=
  List.foldlRecOn _ _ h fun _ h' l' _ =>
    MemSys.putSet_good h' _ ((CacheSet.kept_coherent _ _).good (MemSys.setAt_good h' (c.indexOf_lt hok l' la)))

end Sys2Proof.Machine
end

section
/-! PROOFS. State (10_state.md): an access and the two maintenance walks keep the hierarchy good (R135 to R148). -/

namespace Sys2Proof.Machine

/-! ## What the levels below are relied on for -/

/-- The number of bytes an access moves. -/
def Access.size : Access → Nat
  | .read _ n => n
  | .write _ bs => bs.length

/-- The access ends within its line (R133). -/
def Access.fits (c : Config) (acc : Access) : Prop := c.offsetOf acc.addr + acc.size ≤ c.lineSize

/-- A way down that keeps a good hierarchy good, and answers a read with the bytes asked for. -/
def Lower.Sound (c : Config) (lower : Lower) : Prop :=
  ∀ acc m, acc.fits c → m.good c → (lower acc m).2.good c ∧ ∀ a n, acc = .read a n → (lower acc m).1.length = n

/-- A way down that leaves a level as it was, but for Shared lines dropped (R145). -/
def Lower.Keeps (lower : Lower) (l : Level) : Prop := ∀ acc (m : MemSys), m.keptAt l (lower acc m).2

theorem legal_fits {c : Config} {a : Word} {n : Nat} (h : c.legal a n = true) : c.offsetOf a + n ≤ c.lineSize := by
  simp only [Config.legal, Bool.and_eq_true, decide_eq_true_eq] at h
  exact h.2

/-! ## Traffic below leaves a level (R145) -/

theorem retire_keptAt {c : Config} {lower : Lower} {l l' : Level} (hlow : lower.Keeps l) (hl : l ≠ l') (i w : Nat)
    (m : MemSys) : m.keptAt l (retire c lower l' i w m) := by
  have hput := m.keptAt_putLine hl i w (m.line l' i w).invalidated
  unfold retire
  simp only
  split
  · exact (hput.trans (MemSys.keptAt_of_eq fun j => by simp)).trans (hlow _ _)
  · exact hput

theorem evict_keptAt {c : Config} {lower : Lower} {l l' : Level} (hlow : lower.Keeps l) (hl : l ≠ l') (i w : Nat)
    (m : MemSys) : m.keptAt l (evict c lower l' i w m) := by
  unfold evict
  split
  · exact (MemSys.keptAt_of_eq fun j => by simp).trans (retire_keptAt hlow hl i w _)
  · exact MemSys.keptAt_of_eq fun _ => rfl

/-- The choice of a victim draws at most, and changes no set. -/
@[simp] theorem victim_setAt (c : Config) (l l' : Level) (i j : Nat) (m : MemSys) :
    (victim c l i m).2.setAt l' j = m.setAt l' j := by
  unfold victim
  repeat' split
  all_goals rfl

theorem miss_keptAt {c : Config} {lower : Lower} {l l' : Level} (hlow : lower.Keeps l) (hl : l ≠ l') (a : Word)
    (m : MemSys) : m.keptAt l (miss c lower l' a m).2 := by
  have hcounted : m.keptAt l (m.countMiss l') := MemSys.keptAt_of_eq fun j => by simp
  have hpulled := hcounted.trans (hlow (.read (c.lineAddr a) c.lineSize) (m.countMiss l'))
  have hchosen := hpulled.trans (MemSys.keptAt_of_eq fun j => victim_setAt c l' l (c.indexOf l' a) j _)
  exact (hchosen.trans (evict_keptAt hlow hl _ _ _)).trans (MemSys.keptAt_putLine hl _ _ _ _)

theorem locate_keptAt {c : Config} {lower : Lower} {l l' : Level} (hlow : lower.Keeps l) (hl : l ≠ l') (a : Word)
    (m : MemSys) : m.keptAt l (locate c lower l' a m).2 := by
  cases hfound : (m.setAt l' (c.indexOf l' a)).lookup (c.tagOf l' a) with
  | some w =>
    rw [locate_hit c lower l' a m w hfound]
    refine MemSys.keptAt.trans ?_ (MemSys.keptAt_putLine hl _ _ _ _)
    exact (m.keptAt_putSet hl (c.indexOf l' a) _).trans (MemSys.keptAt_of_eq fun j => MemSys.countHit_setAt _ l' l j)
  | none =>
    rw [locate_miss c lower l' a m hfound]
    exact (m.keptAt_putSet hl _ _).trans (miss_keptAt hlow hl a _)

/-- An access down a chain drops Shared lines, at most, of a level off the chain (R138, R145). -/
theorem access_keeps (c : Config) (l : Level) : ∀ {chain : List Level}, l ∉ chain → Lower.Keeps (access c chain) l
  | [], _, .read _ _, _ | [], _, .write _ _, _ => MemSys.keptAt_of_eq fun _ => rfl
  | l' :: rest, h, acc, m => by
    obtain ⟨hl, hrest⟩ := not_or.mp (mt List.mem_cons.mpr h)
    have hfound := locate_keptAt (c := c) (access_keeps c l hrest) hl acc.addr m
    cases acc with
    | read a n => exact hfound
    | write a bs =>
      exact (hfound.trans (MemSys.keptAt_putLine hl _ _ _ _)).trans (coherencyInvalidate_keptAt c l l' _ _)

/-! ## One level's operations keep the hierarchy good -/

/-- The line read out of a good set is one of its lines where it is valid. -/
theorem CacheSet.way_lt_of_valid {st : CacheSet} {w : Nat} (h : (st.way w).valid = true) : w < st.ways.length := by
  by_contra hge
  rw [CacheSet.way, List.getD_eq_default _ _ (Nat.le_of_not_lt hge)] at h
  cases h

theorem CacheSet.way_mem {st : CacheSet} {w : Nat} (h : w < st.ways.length) : st.way w ∈ st.ways := by
  simp [CacheSet.way, h]

theorem CacheSet.good_line {c : Config} {l : Level} {st : CacheSet} (h : st.good c l) {w : Nat}
    (hw : w < st.ways.length) : (st.way w).good c l := by
  obtain ⟨-, -, -, hlines⟩ := h
  exact hlines _ (CacheSet.way_mem hw)

theorem CacheSet.good_length {c : Config} {l : Level} {st : CacheSet} (h : st.good c l) : st.ways.length = c.assoc.get l := h.1

theorem retire_good {c : Config} (hok : c.ok = true) {lower : Lower} (hlow : lower.Sound c) {l : Level} {i : Nat}
    (hi : i < c.numSets l) {w : Nat} {m : MemSys} (h : m.good c) (hvalid : (m.line l i w).valid = true) :
    (retire c lower l i w m).good c := by
  have hset := MemSys.setAt_good h hi
  have hw : w < (m.setAt l i).ways.length := CacheSet.way_lt_of_valid hvalid
  have hline : (m.line l i w).good c l := CacheSet.good_line hset hw
  have hput : (m.putLine l i w (m.line l i w).invalidated).good c :=
    MemSys.putSet_good h i (CacheSet.good_update hset hw (CacheLine.good_invalidated hline) rfl rfl (fun hv => by cases hv))
  unfold retire
  simp only
  split
  · have hcounted : ((m.putLine l i w (m.line l i w).invalidated).countWriteback l).good c := MemSys.setLevel_good hput l rfl
    refine (hlow _ _ ?_ hcounted).1
    simp [Access.fits, Access.addr, Access.size, c.offsetOf_compose hok, CacheLine.good_data hline]
  · exact hput

theorem evict_good {c : Config} (hok : c.ok = true) {lower : Lower} (hlow : lower.Sound c) {l : Level} {i : Nat}
    (hi : i < c.numSets l) (w : Nat) {m : MemSys} (h : m.good c) : (evict c lower l i w m).good c := by
  unfold evict
  split
  · exact retire_good hok hlow hi (MemSys.setLevel_good h l rfl) (by simpa [MemSys.line] using ‹_›)
  · exact h

theorem writebackInvalidate_good {c : Config} (hok : c.ok = true) {lower : Lower} (hlow : lower.Sound c) {l : Level}
    {i : Nat} (hi : i < c.numSets l) (w : Nat) {m : MemSys} (h : m.good c) : (writebackInvalidate c lower l i w m).good c := by
  unfold writebackInvalidate
  split
  · exact retire_good hok hlow hi h ‹_›
  · exact h

/-- A set that awaits a line still does after a way of it is invalidated and the write goes down. -/
theorem retire_awaits {c : Config} {lower : Lower} {l : Level} (hlow : lower.Keeps l) {i : Nat} (w : Nat) {m : MemSys}
    (hi : i < (m.level l).sets.length) {tag : Word} (h : (m.setAt l i).awaits tag) (hvalid : (m.line l i w).valid = true) :
    ((retire c lower l i w m).setAt l i).awaits tag := by
  have hw : w < (m.setAt l i).ways.length := CacheSet.way_lt_of_valid hvalid
  have hput : ((m.putLine l i w (m.line l i w).invalidated).setAt l i).awaits tag := by
    rw [MemSys.putLine_setAt _ _ _ hi]
    intro ln hln
    rcases List.mem_or_eq_of_mem_set hln with hold | rfl
    · exact h ln hold
    · exact ⟨(h _ (CacheSet.way_mem hw)).1, fun hv => by cases hv⟩
  unfold retire
  simp only
  split
  · refine (hlow _ _ i).awaits ?_
    simpa using hput
  · exact hput

theorem evict_awaits {c : Config} {lower : Lower} {l : Level} (hlow : lower.Keeps l) {i : Nat} (w : Nat) {m : MemSys}
    (hi : i < (m.level l).sets.length) {tag : Word} (h : (m.setAt l i).awaits tag) :
    ((evict c lower l i w m).setAt l i).awaits tag := by
  unfold evict
  split
  · refine retire_awaits hlow w ?_ (by simpa using h) (by simpa [MemSys.line] using ‹_›)
    simpa [MemSys.countEviction] using hi
  · exact h

theorem lruScan_lt : ∀ (ways : List CacheLine) (i best stamp : Nat), best < i + ways.length →
    lruScan ways i best stamp < i + ways.length
  | [], _, _, _, h => h
  | ln :: rest, i, best, stamp, h => by
    rw [List.length_cons] at h ⊢
    unfold lruScan
    split
    · have := lruScan_lt rest (i + 1) i ln.lastAccess (by omega)
      omega
    · have := lruScan_lt rest (i + 1) best stamp (by omega)
      omega

theorem lruWay_lt : ∀ {ways : List CacheLine}, 0 < ways.length → lruWay ways < ways.length
  | ln :: rest, _ => by
    have := lruScan_lt rest 1 0 ln.lastAccess (by omega)
    rw [List.length_cons, Nat.add_comm]
    exact this

/-- The victim is a way of the set (R143). -/
theorem victim_lt {c : Config} (hok : c.ok = true) (l : Level) (i : Nat) {m : MemSys}
    (h : (m.setAt l i).ways.length = c.assoc.get l) : (victim c l i m).1 < c.assoc.get l := by
  have hpos := c.assoc_pos hok l
  unfold victim
  split
  · rename_i hinvalid
    exact h ▸ (List.findIdx?_eq_some_iff_findIdx_eq.mp hinvalid).1
  · split
    · exact h ▸ lruWay_lt (h.symm ▸ hpos)
    · exact Nat.mod_lt _ hpos

theorem victim_good {c : Config} (l : Level) (i : Nat) {m : MemSys} (h : m.good c) : (victim c l i m).2.good c := by
  unfold victim
  repeat' split
  all_goals exact h

theorem installState_ne_invalid (c : Config) (l : Level) (la : Word) (m : MemSys) :
    installState c l la m ≠ .invalid ∧ installState c l la m ≠ .modified := by
  unfold installState
  split <;> simp

/-- What `Locate` and `Miss` answer: a good hierarchy, and a valid line in the way they name (R137, R142). -/
def LocatedAt (c : Config) (l : Level) (a : Word) (x : Nat × MemSys) : Prop :=
  x.2.good c ∧ (x.2.line l (c.indexOf l a) x.1).valid = true

/-- The line a miss installs, in a set that awaits it (R142). -/
theorem install_located {c : Config} (hok : c.ok = true) {l : Level} (a : Word) {m : MemSys} (h : m.good c)
    (hawaits : (m.setAt l (c.indexOf l a)).awaits (c.tagOf l a)) {w : Nat} (hw : w < c.assoc.get l) {ln : CacheLine}
    (hln : ln.good c l) (htag : ln.tag = c.tagOf l a) (hvalid : ln.valid = true)
    (hstamp : ln.lastAccess = (m.setAt l (c.indexOf l a)).accessCounter) :
    LocatedAt c l a (w, m.putLine l (c.indexOf l a) w ln) := by
  have hi := c.indexOf_lt hok l a
  have hset := MemSys.setAt_good h hi
  refine ⟨MemSys.putSet_good h _ (CacheSet.good_install hset (htag ▸ hawaits) hln hstamp), ?_⟩
  rw [MemSys.line, MemSys.putLine_setAt _ _ _ ((MemSys.sets_length h l).symm ▸ hi)]
  simp [CacheSet.way, CacheSet.good_length hset, hw, hvalid]

/-- The victim's way taken out: the hierarchy is good, and the set still awaits the line (R143, R144). -/
theorem evict_victim {c : Config} (hok : c.ok = true) {lower : Lower} {l : Level} (hsound : lower.Sound c)
    (hkeep : lower.Keeps l) {i : Nat} (hi : i < c.numSets l) {tag : Word} {m : MemSys} (h : m.good c)
    (hawaits : (m.setAt l i).awaits tag) :
    (evict c lower l i (victim c l i m).1 (victim c l i m).2).good c ∧
      ((evict c lower l i (victim c l i m).1 (victim c l i m).2).setAt l i).awaits tag := by
  have hchosen := victim_good l i h
  have hlt : i < ((victim c l i m).2.level l).sets.length := (MemSys.sets_length hchosen l).symm ▸ hi
  exact ⟨evict_good hok hsound hi _ hchosen, evict_awaits hkeep _ hlt ((victim_setAt c l l i i m).symm ▸ hawaits)⟩

theorem miss_located {c : Config} (hok : c.ok = true) {lower : Lower} {l : Level} (hsound : lower.Sound c)
    (hkeep : lower.Keeps l) (a : Word) {m : MemSys} (h : m.good c)
    (hawaits : (m.setAt l (c.indexOf l a)).awaits (c.tagOf l a)) : LocatedAt c l a (miss c lower l a m) := by
  have hi := c.indexOf_lt hok l a
  have hcounted : (m.countMiss l).good c := MemSys.setLevel_good h l rfl
  have hfits : (Access.read (c.lineAddr a) c.lineSize).fits c := by
    simp [Access.fits, Access.addr, Access.size, c.offsetOf_lineAddr hok]
  obtain ⟨hpulled, hbytes⟩ := hsound _ _ hfits hcounted
  have hpulledAwaits := (hkeep (.read (c.lineAddr a) c.lineSize) (m.countMiss l) (c.indexOf l a)).awaits
    (tag := c.tagOf l a) (by simpa using hawaits)
  obtain ⟨hevicted, hevictedAwaits⟩ := evict_victim hok hsound hkeep hi hpulled hpulledAwaits
  obtain ⟨hinvalid, hmodified⟩ := installState_ne_invalid c l (c.lineAddr a) _
  refine install_located hok a hevicted hevictedAwaits
    (victim_lt hok l _ (CacheSet.good_length (MemSys.setAt_good hpulled hi)))
    ⟨⟨?_, ?_⟩, ⟨?_, c.tagOf_lt hok l a⟩, fun _ => rfl⟩ rfl rfl rfl
  · simpa using hinvalid
  · simpa using hmodified
  · exact hbytes _ _ rfl

theorem CacheSet.lookup_eq_some {st : CacheSet} {tag : Word} {w : Nat} (h : st.lookup tag = some w) :
    w < st.ways.length ∧ (st.way w).hasTag tag = true := by
  obtain ⟨hw, hat, -⟩ := List.findIdx?_eq_some_iff_getElem.mp h
  exact ⟨hw, by simpa [CacheSet.way, hw] using hat⟩

/-- One more access of a set counted at its level (R137). -/
def MemSys.bumpedAt (m : MemSys) (l : Level) (i : Nat) : MemSys := m.putSet l i (m.setAt l i).bumped

theorem MemSys.bumpedAt_good {c : Config} {m : MemSys} (h : m.good c) {l : Level} {i : Nat} (hi : i < c.numSets l) :
    (m.bumpedAt l i).good c := MemSys.putSet_good h i (CacheSet.good_bumped (MemSys.setAt_good h hi))

theorem MemSys.bumpedAt_setAt {c : Config} {m : MemSys} (h : m.good c) {l : Level} {i : Nat} (hi : i < c.numSets l) :
    (m.bumpedAt l i).setAt l i = (m.setAt l i).bumped :=
  m.putSet_setAt_same l i _ ((MemSys.sets_length h l).symm ▸ hi)

/-- A hit's way restamped (R137, R139). -/
theorem restamp_located {c : Config} {l : Level} {a : Word} {m : MemSys} (hi : c.indexOf l a < c.numSets l) (h : m.good c)
    {w : Nat} (hw : w < (m.setAt l (c.indexOf l a)).ways.length) (hvalid : (m.line l (c.indexOf l a) w).valid = true) :
    LocatedAt c l a (w, ((m.bumpedAt l (c.indexOf l a)).countHit l).putLine l (c.indexOf l a) w
      { m.line l (c.indexOf l a) w with lastAccess := (m.setAt l (c.indexOf l a)).accessCounter + 1 }) := by
  have hcounted : ((m.bumpedAt l (c.indexOf l a)).countHit l).good c :=
    MemSys.setLevel_good (MemSys.bumpedAt_good h hi) l rfl
  have hread : ((m.bumpedAt l (c.indexOf l a)).countHit l).setAt l (c.indexOf l a) = (m.setAt l (c.indexOf l a)).bumped :=
    (MemSys.countHit_setAt _ _ _ _).trans (MemSys.bumpedAt_setAt h hi)
  refine ⟨?_, ?_⟩
  · rw [MemSys.putLine, hread]
    exact MemSys.putSet_good hcounted _ (CacheSet.good_restamp (MemSys.setAt_good h hi) hw)
  · rw [MemSys.line, MemSys.putLine_setAt _ _ _ ((MemSys.sets_length hcounted l).symm ▸ hi), hread]
    simpa [CacheSet.way, CacheSet.bumped, hw] using hvalid

theorem locate_located {c : Config} (hok : c.ok = true) {lower : Lower} {l : Level} (hsound : lower.Sound c)
    (hkeep : lower.Keeps l) (a : Word) {m : MemSys} (h : m.good c) : LocatedAt c l a (locate c lower l a m) := by
  have hi := c.indexOf_lt hok l a
  cases hfound : (m.setAt l (c.indexOf l a)).lookup (c.tagOf l a) with
  | some w =>
    obtain ⟨hw, htag⟩ := CacheSet.lookup_eq_some hfound
    have hline : ((m.bumpedAt l (c.indexOf l a)).countHit l).line l (c.indexOf l a) w = m.line l (c.indexOf l a) w := by
      rw [MemSys.line, MemSys.countHit_setAt, MemSys.bumpedAt_setAt h hi]
      rfl
    rw [locate_hit c lower l a m w hfound]
    have := restamp_located hi h hw (Bool.and_eq_true_iff.mp htag).1
    rw [← hline] at this
    exact this
  | none =>
    rw [locate_miss c lower l a m hfound]
    have hawaits := CacheSet.awaits_bumped (MemSys.setAt_good h hi) hfound
    exact miss_located hok hsound hkeep a (MemSys.bumpedAt_good h hi) ((MemSys.bumpedAt_setAt h hi).symm ▸ hawaits)

/-! ## An access down a chain (R138) -/

/-- One level on top of a sound way down: a read, or at a level other than L1I a write. -/
theorem access_cons_sound {c : Config} (hok : c.ok = true) {l : Level} {rest : List Level}
    (hsound : Lower.Sound c (access c rest)) (hrest : l ∉ rest) {acc : Access} {m : MemSys} (hfits : acc.fits c)
    (h : m.good c) (hl1i : ∀ a bs, acc = .write a bs → l ≠ .l1i) :
    (access c (l :: rest) acc m).2.good c ∧ ∀ a n, acc = .read a n → (access c (l :: rest) acc m).1.length = n := by
  have hi := c.indexOf_lt hok l acc.addr
  obtain ⟨hfound, hvalid⟩ := locate_located hok hsound (access_keeps c l hrest) acc.addr h
  have hset := MemSys.setAt_good hfound hi
  have hw := CacheSet.way_lt_of_valid hvalid
  have hline := CacheSet.good_line hset hw
  cases acc with
  | read a n =>
    refine ⟨hfound, fun a' n' heq => ?_⟩
    cases heq
    have hlength : ((locate c (access c rest) l a m).2.line l (c.indexOf l a) (locate c (access c rest) l a m).1).data.length =
      c.lineSize := CacheLine.good_data hline
    simp only [access, Access.addr, List.length_take, List.length_drop, hlength]
    have : c.offsetOf a + n ≤ c.lineSize := hfits
    omega
  | write a bs =>
    refine ⟨coherencyInvalidate_good hok l _ (MemSys.putSet_good hfound _ ?_), fun _ _ heq => by cases heq⟩
    exact CacheSet.good_update hset hw (CacheLine.good_written hline (hl1i a bs rfl) hvalid hfits) rfl rfl (fun _ => hvalid)

/-- Down a chain without L1I, whose levels differ, every access keeps the hierarchy good. -/
theorem access_sound {c : Config} (hok : c.ok = true) : ∀ {chain : List Level}, chain.Nodup → .l1i ∉ chain →
    Lower.Sound c (access c chain)
  | [], _, _, .read _ _, _, _, h => ⟨h, fun _ _ heq => by cases heq; exact Memory.readBytes_length _ _ _⟩
  | [], _, _, .write a bs, _, _, h =>
    ⟨MemSys.good_of_levels h (Memory.writeBytes_wf bs a h.1) fun _ => rfl, fun _ _ heq => by cases heq⟩
  | l :: rest, hnodup, hl1i, acc, m, hfits, h => by
    obtain ⟨hl, hrest⟩ := not_or.mp (mt List.mem_cons.mpr hl1i)
    obtain ⟨hmem, hnodup⟩ := List.nodup_cons.mp hnodup
    exact access_cons_sound hok (access_sound hok hnodup hrest) hmem hfits h fun _ _ _ => Ne.symm hl

theorem access_below_sound {c : Config} (hok : c.ok = true) (l : Level) : Lower.Sound c (access c l.below) := by
  cases l <;> exact access_sound hok (by decide) (by decide)

theorem cacheRead_good {c : Config} (hok : c.ok = true) {k : ReadKind} {a : Word} {n : Nat} {m m' : MemSys} {q : List Byte}
    (h : m.good c) (hread : cacheRead c k a n m = some (q, m')) : m'.good c := by
  obtain ⟨hlegal, heq⟩ := Option.ite_none_right_eq_some.mp hread
  have hbelow := access_below_sound hok k.first
  have := (access_cons_sound hok (l := k.first) hbelow (by cases k <;> decide) (acc := .read a n) (legal_fits hlegal) h nofun).1
  have hchain : k.first :: k.first.below = k.first.chain := by cases k <;> rfl
  rw [hchain, Option.some.inj heq] at this
  exact this

theorem cacheWrite_good {c : Config} (hok : c.ok = true) {a : Word} {bs : List Byte} {m m' : MemSys} (h : m.good c)
    (hwrite : cacheWrite c a bs m = some m') : m'.good c := by
  obtain ⟨hlegal, heq⟩ := Option.ite_none_right_eq_some.mp hwrite
  rw [← Option.some.inj heq]
  exact (access_sound hok (by decide) (by decide) (.write a bs) _ (legal_fits hlegal) h).1

/-! ## The maintenance walks (R147, R148) -/

/-- A property kept at every way of the geometry is kept by a walk. -/
theorem forEachWay_keeps {P : MemSys → Prop} {c : Config} {f : Level → Nat → Nat → MemSys → MemSys}
    (hf : ∀ l i w m, i < c.numSets l → w < c.assoc.get l → P m → P (f l i w m)) {m : MemSys} (h : P m) :
    P (forEachWay c f m) :=
  List.foldlRecOn _ _ h fun _ hm l _ => List.foldlRecOn _ _ hm fun _ hm i hi => List.foldlRecOn _ _ hm fun _ hm w hw =>
    hf l i w _ (List.mem_range.mp hi) (List.mem_range.mp hw) hm

theorem flushAll_good {c : Config} (hok : c.ok = true) {m : MemSys} (h : m.good c) : (flushAll c m).good c :=
  forEachWay_keeps (fun l _ w _ hi _ hm => writebackInvalidate_good hok (access_below_sound hok l) hi w hm) h

theorem invalidateLines_good {c : Config} (hok : c.ok = true) (lo hi : Word) {m : MemSys} (h : m.good c) :
    (invalidateLines c lo hi m).good c := by
  refine forEachWay_keeps (fun l _ w _ hi _ hm => ?_) h
  split
  · exact writebackInvalidate_good hok (access_below_sound hok l) hi w hm
  · exact hm

/-! ## Reset (R66) -/

theorem resetSet_good (c : Config) (l : Level) : (resetSet c l).good c l := by
  have hline : ∀ ln ∈ (resetSet c l).ways, ln = resetLine c := fun ln hln => List.eq_of_mem_replicate hln
  have hempty {α : Type} (f : CacheLine → α) : distinctBy f (resetSet c l).ways :=
    List.pairwise_of_forall_mem_list fun x hx _ _ hvalid => by rw [hline x hx] at hvalid; cases hvalid
  refine ((resetSet c l).good_iff c l).mpr ⟨List.length_replicate, hempty _, hempty _, fun ln hln => ?_⟩
  rw [hline ln hln]
  refine ⟨⟨⟨by simp [resetLine], by simp [resetLine]⟩, ⟨List.length_replicate, ?_⟩, fun _ => rfl⟩, Nat.le_refl 0⟩
  simp [resetLine]

theorem resetCaches_get (c : Config) (l : Level) : (resetCaches c).get l = resetLevel c l := by cases l <;> rfl

theorem MemSys.good_resetCaches {c : Config} {m : MemSys} (hmem : m.mem.wf = true) :
    ({ m with caches := resetCaches c } : MemSys).good c := by
  refine ⟨hmem, fun l => ?_⟩
  rw [MemSys.level, resetCaches_get]
  exact ⟨List.length_replicate, fun st hst => List.eq_of_mem_replicate hst ▸ resetSet_good c l⟩

end Sys2Proof.Machine
end

section
/-! PROOFS. State (10_state.md): all that reaches the cache hierarchy and main memory in a step. -/

namespace Sys2Proof.Machine

/-- What an instruction other than `RESET` does to the hierarchy: accesses, maintenance walks, and, where data accesses go
to main memory itself, writes there (R71, R140, R141, R147, R148). -/
inductive MemSys.Traffic (c : Config) (m : MemSys) : MemSys → Prop
  | none : m.Traffic c m
  | read {m' m'' : MemSys} {k : ReadKind} {a : Word} {n : Nat} {q : List Byte} (before : m.Traffic c m')
      (h : cacheRead c k a n m' = some (q, m'')) : m.Traffic c m''
  | write {m' m'' : MemSys} {a : Word} {bs : List Byte} (before : m.Traffic c m') (h : cacheWrite c a bs m' = some m'') :
      m.Traffic c m''
  | direct {m' : MemSys} (a : Word) (bs : List Byte) (before : m.Traffic c m') (h : c.dataPath = .memory) :
      m.Traffic c { m' with mem := m'.mem.writeBytes a bs }
  | writeBackAll {m' : MemSys} (before : m.Traffic c m') : m.Traffic c (flushAll c m')
  | dropLines {m' : MemSys} (lo hi : Word) (before : m.Traffic c m') : m.Traffic c (invalidateLines c lo hi m')

theorem MemSys.Traffic.good {c : Config} (hok : c.ok = true) {m m' : MemSys} (ht : m.Traffic c m') (h : m.good c) :
    m'.good c := by
  induction ht with
  | none => exact h
  | read _ hread ih => exact cacheRead_good hok ih hread
  | write _ hwrite ih => exact cacheWrite_good hok ih hwrite
  | direct a bs _ _ ih => exact MemSys.good_of_levels ih (Memory.writeBytes_wf bs a ih.1) fun _ => rfl
  | writeBackAll _ ih => exact flushAll_good hok ih
  | dropLines lo hi _ ih => exact invalidateLines_good hok lo hi ih

/-- A state some traffic after another: `c` and `m` are the configuration and the hierarchy it started from. -/
def State.After (c : Config) (m : MemSys) (s : State) : Prop := s.cfg = c ∧ m.Traffic c s.sys

section
variable {c : Config} {m : MemSys} {s t : State}

theorem State.After.congr (hcfg : t.cfg = s.cfg) (hsys : t.sys = s.sys) (h : s.After c m) : t.After c m :=
  ⟨hcfg.trans h.1, hsys ▸ h.2⟩

theorem State.After.sameData (hst : s.SameData t) : s.After c m → t.After c m := State.After.congr hst.cfg hst.sys

theorem State.After.forward (h : s.After c m) (id : StageId) (r : InstrRecord) : (s.forward id r).After c m :=
  h.congr (by simp) (by simp)

/-! ## Fetch (R206) -/

theorem State.After.readWord (h : s.After c m) (a : Word) : (s.readWord a).2.After c m := by
  obtain ⟨rfl, ht⟩ := h
  unfold State.readWord
  split
  · split
    · exact ⟨rfl, ht.read ‹_›⟩
    · exact ⟨rfl, ht⟩
  · split <;> exact ⟨rfl, ht⟩

theorem State.After.fetchInstruction (h : s.After c m) (pc : Word) : (s.fetchInstruction pc).2.After c m := by
  have hread := h.readWord pc
  unfold State.fetchInstruction
  split
  · exact h
  · split <;> rename_i hres <;> rw [hres] at hread <;> exact hread

theorem State.After.prefetch (h : s.After c m) (pc : Word) : (s.prefetch pc).After c m := by
  have hread := h.readWord (nextLine s.cfg pc)
  unfold State.prefetch
  split
  · simp only
    split
    · exact h
    · split <;> rename_i hres <;> rw [hres] at hread <;> exact hread
  · exact h

theorem State.After.fetched (h : s.After c m) (pc : Word) (w : IWord) : (s.fetched pc w).After c m := by
  have hcounted : (s.draw.2.countProcessed .f s.draw.1).After c m := h.congr (by simp) (by simp)
  exact State.After.congr (by simp [State.fetched]) (by simp [State.fetched])
    (State.After.prefetch (s := { s.draw.2.countProcessed .f s.draw.1 with
      fetch := { (s.draw.2.countProcessed .f s.draw.1).fetch with nextPC := pc + 4 } }) hcounted pc)

theorem State.After.fetchIteration (h : s.After c m) : s.fetchIteration.After c m := by
  have hread := State.After.fetchInstruction (s := { s with fetch := s.fetch.applyRedirect }) h s.fetch.applyRedirect.nextPC
  unfold State.fetchIteration
  split
  · exact h.congr (by simp) (by simp)
  · simp only
    split <;> rename_i hres <;> rw [hres] at hread
    · exact hread.fetched _ _
    · exact hread.congr (by simp) (by simp)

/-! ## Execute (R71, R242) -/

theorem State.After.dataRead (h : s.After c m) (a : Word) (n : Nat) : (s.dataRead a n).2.After c m := by
  obtain ⟨rfl, ht⟩ := h
  unfold State.dataRead
  split
  · split
    · exact ⟨rfl, ht.read ‹_›⟩
    · exact ⟨rfl, ht⟩
  · exact ⟨rfl, ht⟩

theorem State.After.dataWrite (h : s.After c m) (a : Word) (bs : List Byte) : (s.dataWrite a bs).After c m := by
  obtain ⟨rfl, ht⟩ := h
  unfold State.dataWrite
  split
  · split
    · exact ⟨rfl, ht.write ‹_›⟩
    · exact ⟨rfl, ht⟩
  · exact ⟨rfl, ht.direct a bs ‹_›⟩

end

/-- What keeps a property of states through every action of the execution unit: register writes and data accesses (R242). -/
structure UnitKeeps (P : State → Prop) : Prop where
  setInt : ∀ {s : State} (r : RegNum) (v : Word), P s → P (s.writeInt r v)
  setFloat : ∀ {s : State} (r : RegNum) (v : Word), P s → P (s.writeFloat r v)
  read : ∀ {s : State} (a : Word) (n : Nat), P s → P (s.dataRead a n).2
  write : ∀ {s : State} (a : Word) (bs : List Byte), P s → P (s.dataWrite a bs)
  keep : ∀ {old s : State} (r : InstrRecord), P old → P s → P (old.keepDest r s)

namespace UnitKeeps

variable {P : State → Prop} (hP : UnitKeeps P)
include hP

theorem unitLoop (r : InstrRecord) (own : Bool) : ∀ (fuel : Nat) (answers : List (Option (List Byte))) (n : Nat) {s : State},
    P s → P (unitLoop r own fuel answers n s).2
  | 0, _, _, _, h => h
  | fuel + 1, answers, n, s, h => by
    unfold Machine.unitLoop
    split
    · exact unitLoop r own fuel _ _ (hP.setInt _ _ h)
    · exact unitLoop r own fuel _ _ (hP.setFloat _ _ h)
    · split
      · exact unitLoop r own fuel _ _ (hP.read _ _ h)
      · exact h
    · split
      · exact unitLoop r own fuel _ _ (hP.write _ _ h)
      · exact h
    · exact h
    · exact h

theorem loadEnd (r : InstrRecord) (bytes : Option (List Byte)) {old : State} (hold : P old) {x : UnitOutcome × State}
    (h : P x.2) : P (loadEnd r bytes old x).2 := by
  unfold Machine.loadEnd
  split
  · exact hP.keep r hold h
  · exact h

theorem collaborate (r : InstrRecord) {s : State} (h : P s) : P (collaborate r s).2 := by
  unfold Machine.collaborate
  simp only
  split
  · split
    · exact hP.unitLoop r true _ _ _ h
    · exact hP.loadEnd r _ h (hP.unitLoop r false _ _ _ (hP.read _ _ h))
  · split
    · split
      · exact hP.unitLoop r true _ _ _ h
      · exact hP.unitLoop r false _ _ _ (hP.write _ _ h)
    · exact hP.unitLoop r true _ _ _ h

theorem xu1Operate (r : InstrRecord) {s : State} (h : P s) : P (xu1Operate r s).2 := by
  unfold Machine.xu1Operate
  simp only
  split
  · exact hP.setInt _ _ h
  · split
    · exact hP.setInt _ _ h
    · split
      · exact hP.setInt _ _ h
      · exact h

theorem xu1Load (r : InstrRecord) {s : State} (h : P s) : P (xu1Load r s).2 := by
  have hread := hP.read (s.effAddr r) 8 h
  unfold Machine.xu1Load
  split
  · rename_i heq
    rw [heq] at hread
    exact hread
  · exact hP.collaborate r h

theorem xu1Store (r : InstrRecord) {s : State} (h : P s) : P (xu1Store r s).2 := by
  unfold Machine.xu1Store
  split
  · exact hP.collaborate r h
  · exact hP.write _ _ h

theorem xu1 (r : InstrRecord) {s : State} (h : P s) : P (xu1 r s).2 := by
  unfold Machine.xu1
  split
  case h_1 => exact hP.xu1Operate r h
  case h_2 =>
    split
    · exact hP.xu1Load r h
    · split
      · exact hP.xu1Store r h
      · exact hP.collaborate r h
  case h_3 =>
    split
    · exact h
    · split
      · exact h
      · split
        · exact h
        · exact hP.collaborate r h
  all_goals exact hP.collaborate r h

theorem execUnit (r : InstrRecord) {s : State} (h : P s) : P (execUnit r s).2 := by
  unfold Machine.execUnit
  split
  · exact h
  · split
    · exact hP.collaborate r h
    · exact hP.xu1 r h

end UnitKeeps

/-- What keeps a property of states through all of Execute: its unit's actions, and the bookkeeping of its own state, of
the events, of the trace and of the draws. -/
structure ExecuteKeeps (P : State → Prop) : Prop where
  unit : UnitKeeps P
  own : ∀ {s : State} (x : ExecState), P s → P { s with ex := x }
  emit : ∀ {s : State} (e : Event), P s → P (s.emit e)
  draw : ∀ {s : State}, P s → P s.draw.2
  trace : ∀ {s : State} (r : InstrRecord), P s → P (s.recordExecution r)

namespace ExecuteKeeps

variable {P : State → Prop} (hP : ExecuteKeeps P)
include hP

theorem executeInline (r : InstrRecord) {s : State} (h : P s) : P (executeInline r s).2 := by
  have hunit := hP.unit.execUnit r h
  unfold Machine.executeInline
  split <;> rename_i hres <;> rw [hres] at hunit
  · exact hunit
  · exact hP.emit _ (hP.own _ hunit)

theorem requestCompile (e : TierEntry) (pc : Word) {s : State} (h : P s) : P (s.requestCompile e pc).2 := by
  unfold State.requestCompile
  split
  · exact h
  · exact hP.emit _ (hP.own _ h)

theorem modeFor (e : TierEntry) (pc : Word) {s : State} (h : P s) : P (s.modeFor e pc).2.2 := by
  unfold State.modeFor
  split
  · exact h
  · split
    · exact h
    · split
      · exact hP.draw h
      · exact hP.requestCompile e pc (hP.draw h)

theorem noteMode (old : Option ExecMode) (new : ExecMode) (pc : Word) {s : State} (h : P s) : P (s.noteMode old new pc) := by
  unfold State.noteMode
  split
  · exact h
  · split
    · exact h
    · exact hP.emit _ (hP.own _ h)

theorem tierStep (r : InstrRecord) {s : State} (h : P s) : P (s.tierStep r).2 :=
  hP.own _ (hP.noteMode _ _ _ (hP.modeFor _ _ h))

theorem tryCompiled (r : InstrRecord) {s : State} (h : P s) : P (s.tryCompiled r).2 := by
  have hunit := hP.unit.execUnit r (hP.draw h)
  unfold State.tryCompiled
  split
  · split <;> rename_i hres <;> rw [hres] at hunit
    · exact hunit
    · exact hP.draw h
  · exact hP.draw h

theorem interpretE (r : InstrRecord) {s : State} (h : P s) : P (interpretE r s).2 := by
  unfold Machine.interpretE
  simp only
  split
  · exact hP.own _ h
  · exact hP.executeInline _ h

theorem hybridE (r : InstrRecord) {s : State} (h : P s) : P (hybridE r s).2 := by
  have hstep := hP.tierStep r h
  unfold Machine.hybridE
  split <;> rename_i hmode <;> rw [hmode] at hstep
  · have htried := hP.tryCompiled r hstep
    split <;> rename_i hres <;> rw [hres] at htried
    · exact htried
    · exact hP.interpretE r (hP.own _ htried)
  · exact hP.interpretE r (hP.trace r hstep)
  · exact hP.interpretE r hstep

theorem processE (r : InstrRecord) (s : State) (h : P s) : P (processE r s).2 := by
  unfold Machine.processE
  split
  · split
    · exact hP.interpretE r h
    · exact hP.hybridE r h
  · exact h

end ExecuteKeeps

theorem State.After.executeKeeps (c : Config) (m : MemSys) : ExecuteKeeps (State.After c m) where
  unit :=
    { setInt := fun r v h => h.congr (by simp) (by simp)
      setFloat := fun r v h => h.congr (by simp) (by simp)
      read := fun a n h => h.dataRead a n
      write := fun a bs h => h.dataWrite a bs
      keep := fun r _ h => h.congr (by simp) (by simp) }
  own := fun _ h => h
  emit := fun _ h => h
  draw := fun h => h
  trace := fun _ h => h

/-! ## The step -/

theorem State.Does.after {s t : State} (h : s.Does t) : t.After s.cfg s.sys := by
  have hs : s.After s.cfg s.sys := ⟨rfl, .none⟩
  cases h with
  | nothing => exact hs
  | read _ _ _ hread => exact ⟨rfl, .read .none hread⟩
  | write _ _ hwrite => exact ⟨rfl, .write .none hwrite⟩
  | writeBackAll => exact ⟨rfl, .writeBackAll .none⟩
  | dropLines lo hi => exact ⟨rfl, .dropLines lo hi .none⟩
  | setPC => exact hs
  | redirect h =>
    obtain ⟨-, rfl⟩ := State.redirect_eq_some h
    exact hs
  | fetch => exact hs.fetchIteration
  | decode _ hp => exact State.iterate_keeps State.After.sameData hp.keeps .d hs
  | execute => exact State.iterate_keeps State.After.sameData (State.After.executeKeeps _ _).processE .e hs
  | writeback =>
    exact State.iterate_keeps State.After.sameData (fun r u hu => hu.congr (by simp [processW]) (by simp [processW])) .w hs
  | completeHeavy =>
    exact State.After.forward ((State.After.executeKeeps _ _).executeInline _ ((State.After.executeKeeps _ _).own _ hs)) .e _
  | advance h => exact hs.sameData (State.advance_sameData h)
  | init | start | submit | resize | shutdown | flag | startAll | stopAll | beginFlush | exception | tick =>
    exact hs.congr (by simp) (by simp)

theorem State.Does.cfg {s t : State} (h : s.Does t) : t.cfg = s.cfg := h.after.1

theorem State.Does.traffic {s t : State} (h : s.Does t) : s.sys.Traffic s.cfg t.sys := h.after.2

/-- Settles O8: all that reaches the hierarchy is traffic that keeps it good, or the reset of its caches. -/
theorem stepKeepsHierarchy : Obligations.StepKeepsHierarchy := fun _ _ =>
  step_keeps (P := fun s => s.sys.good s.cfg) (fun ⟨_, _, _, heq⟩ hs => heq ▸ hs)
    (fun hok hs h => h.cfg ▸ h.traffic.good hok hs) (fun _ hs => MemSys.good_resetCaches hs.1)

end Sys2Proof.Machine
end

section
/-! PROOFS. State (10_state.md): what no instruction writes (R58, R244, R341), and the reset values (R66, R340). -/

namespace Sys2Proof.Machine

/-! ## Growth: the configuration and register 31 stay, and events are only added -/

/-- `t` has the configuration and register 31 of `s`, and the events of `s` first in its stream (R58, R244, R341). -/
def State.Grows (s t : State) : Prop :=
  t.cfg = s.cfg ∧ t.ints[31] = s.ints[31] ∧ t.floats[31] = s.floats[31] ∧ ∃ l, t.events = s.events ++ l

section
variable {s t u : State}

theorem State.Grows.refl (s : State) : s.Grows s := ⟨rfl, rfl, rfl, [], (List.append_nil _).symm⟩

theorem State.Grows.trans (h : s.Grows t) (h' : t.Grows u) : s.Grows u := by
  obtain ⟨hcfg, hint, hfloat, l, hl⟩ := h
  obtain ⟨hcfg', hint', hfloat', l', hl'⟩ := h'
  exact ⟨hcfg'.trans hcfg, hint'.trans hint, hfloat'.trans hfloat, l ++ l', by rw [hl', hl, List.append_assoc]⟩

/-- What writes none of them. -/
theorem State.Grows.same (h : s.Grows t) (hcfg : u.cfg = t.cfg) (hint : u.ints = t.ints) (hfloat : u.floats = t.floats)
    (hevents : u.events = t.events) : s.Grows u := by
  simpa only [State.Grows, hcfg, hint, hfloat, hevents] using h

theorem State.Grows.emit (h : s.Grows t) (e : Event) : s.Grows (t.emit e) := h.trans ⟨rfl, rfl, rfl, [e], rfl⟩

/-! ## Registers (R244) -/

theorem set_ne_31 (v : Vector Word 32) {r : RegNum} (hr : r ≠ 31) (x : Word) : (v.set r.toNat x r.isLt)[31] = v[31] := by
  refine Vector.getElem_set_ne _ _ fun h => hr (BitVec.eq_of_toNat_eq ?_)
  simpa using h

theorem State.Grows.writeInt (h : s.Grows t) (r : RegNum) (v : Word) : s.Grows (t.writeInt r v) := by
  unfold State.writeInt
  split
  · exact h
  · exact h.trans ⟨rfl, set_ne_31 _ ‹_› v, rfl, [], (List.append_nil _).symm⟩

theorem State.Grows.writeFloat (h : s.Grows t) (r : RegNum) (v : Word) : s.Grows (t.writeFloat r v) := by
  unfold State.writeFloat
  split
  · exact h
  · exact h.trans ⟨rfl, rfl, set_ne_31 _ ‹_› v, [], (List.append_nil _).symm⟩

/-- Taking one slot from a bank with the same slot 31 leaves slot 31. -/
theorem set_from_31 {v w : Vector Word 32} (h : w[31] = v[31]) (r : RegNum) :
    (v.set r.toNat (w[r.toNat]'(r.isLt)) r.isLt)[31] = v[31] := by
  by_cases hr : r = 31
  · subst hr
    simpa using h
  · exact set_ne_31 v hr _

theorem State.Grows.keepDest {old : State} (r : InstrRecord) (hold : s.Grows old) (h : s.Grows t) :
    s.Grows (old.keepDest r t) := by
  refine h.trans ?_
  obtain ⟨-, hint, hfloat, -⟩ := hold
  obtain ⟨-, hint', hfloat', -⟩ := h
  unfold State.keepDest
  split
  · exact ⟨rfl, rfl, set_from_31 (hfloat.trans hfloat'.symm) r.ra, [], (List.append_nil _).symm⟩
  · exact ⟨rfl, set_from_31 (hint.trans hint'.symm) r.ra, rfl, [], (List.append_nil _).symm⟩

theorem State.Grows.executeKeeps (s : State) : ExecuteKeeps s.Grows where
  unit :=
    { setInt := fun r v h => h.writeInt r v
      setFloat := fun r v h => h.writeFloat r v
      read := fun a n h => h.same (by simp) (by simp) (by simp) (by simp)
      write := fun a bs h => h.same (by simp) (by simp) (by simp) (by simp)
      keep := fun r hold h => hold.keepDest r h }
  own := fun _ h => h
  emit := fun e h => h.emit e
  draw := fun h => h
  trace := fun _ h => h

/-! ## Stages and the worker -/

theorem State.Grows.stall (h : s.Grows t) (id : StageId) : s.Grows (t.stall id) :=
  (h.same (u := t.setStage id _) rfl rfl rfl rfl).emit _

theorem State.Grows.submit (h : s.Grows t) (id : StageId) (r : InstrRecord) : s.Grows (t.submit id r).2 := by
  unfold State.submit
  split
  · exact h
  · exact (h.same (u := t.setStage id _) rfl rfl rfl rfl).emit _

theorem State.Grows.forward (h : s.Grows t) (id : StageId) (r : InstrRecord) : s.Grows (t.forward id r) := by
  unfold State.forward
  split
  · exact h
  · exact h.submit _ r

theorem State.Grows.initStage (h : s.Grows t) (id : StageId) : s.Grows (t.initStage id) :=
  h.same (by simp) (by simp) (by simp) (by simp)

theorem State.Grows.startStage (h : s.Grows t) (id : StageId) : s.Grows (t.startStage id) :=
  (h.same (u := t.setStage id _) rfl rfl rfl rfl).emit _

theorem State.Grows.shutdownStage (h : s.Grows t) (id : StageId) : s.Grows (t.shutdownStage id) :=
  State.Grows.emit (h.same (by simp) (by simp) (by simp) (by simp)) _

theorem State.Grows.work (h : s.Grows t) (id : StageId) {p : Process} (hp : ∀ r u, s.Grows u → s.Grows (p r u).2)
    (r : InstrRecord) : s.Grows (t.work id p r) := by
  have hprocessed := hp r (t.dequeue id).draw.2 h
  unfold State.work
  simp only
  split <;> rename_i hres <;> rw [hres] at hprocessed
  · exact State.Grows.forward (t := State.countProcessed _ id _) hprocessed id _
  · exact hprocessed
  · exact hprocessed.stall id

theorem State.Grows.iterate (h : s.Grows t) (id : StageId) {p : Process} (hp : ∀ r u, s.Grows u → s.Grows (p r u).2) :
    s.Grows (t.iterate id p) := by
  unfold State.iterate
  split
  · exact h
  · split
    · unfold State.timeout
      split
      · exact h.stall id
      · exact h
    · exact h.work id hp _

theorem State.Grows.fetchIteration (h : s.Grows t) : s.Grows t.fetchIteration := by
  have hread : s.Grows (({ t with fetch := t.fetch.applyRedirect } : State).fetchInstruction t.fetch.applyRedirect.nextPC).2 :=
    h.same (by simp) (by simp) (by simp) (by simp)
  unfold State.fetchIteration
  split
  · exact h
  · simp only
    split <;> rename_i hres <;> rw [hres] at hread
    · refine State.Grows.forward (State.Grows.same hread ?_ ?_ ?_ ?_) .f _ <;> simp
    · exact hread.stall .f

/-! ## Writeback (R265) -/

theorem State.Grows.writeLoad (h : s.Grows t) (r : InstrRecord) : s.Grows (t.writeLoad r) := by
  unfold State.writeLoad
  split
  · exact h.writeFloat _ _
  · exact h.writeInt _ _

theorem State.Grows.resolveBranch (h : s.Grows t) (r : InstrRecord) : s.Grows (t.resolveBranch r) := by
  have hresolved : s.Grows (({ t with wb := t.wb.countBranch (branchTaken r) } : State).emit
    (.branchResolved r.pc (branchTaken r) (realizedTarget r))) := State.Grows.emit h _
  unfold State.resolveBranch
  simp only
  split
  · exact hresolved.same (by simp) (by simp) (by simp) (by simp)
  · exact hresolved

theorem State.Grows.commit (h : s.Grows t) (r : InstrRecord) : s.Grows (t.commit r) := by
  have hload : s.Grows (if r.isLoad then t.writeLoad r else t) := by
    split
    · exact h.writeLoad r
    · exact h
  have hbranch : s.Grows (if isBranch r then (if r.isLoad then t.writeLoad r else t).resolveBranch r
      else if r.isLoad then t.writeLoad r else t) := by
    split
    · exact hload.resolveBranch r
    · exact hload
  exact State.Grows.emit hbranch _

theorem State.Grows.writeback (h : s.Grows t) (r : InstrRecord) : s.Grows (t.writeback r) := by
  unfold State.writeback
  split
  · split
    · exact State.Grows.emit h _
    · exact h.commit r
  · exact State.Grows.stall h .w

/-! ## Controller -/

theorem State.Grows.tune (h : s.Grows t) (id : StageId) : s.Grows (t.tune id) := by
  unfold State.tune
  simp only
  split
  · split
    · exact (h.emit (.bottleneckDetected id)).same (by simp) (by simp) (by simp) (by simp)
    · exact h.emit _
  · split
    · split
      · exact h.same (by simp) (by simp) (by simp) (by simp)
      · exact h
    · exact h

theorem State.Grows.timerTick (h : s.Grows t) : s.Grows t.timerTick := by
  have hsampled : s.Grows (StageId.all.foldl State.sample { t with ctrl := { t.ctrl with tick := t.ctrl.tick + 1 } }) :=
    List.foldlRecOn _ _ h fun _ hu id _ => hu
  unfold State.timerTick
  simp only
  split
  · exact List.foldlRecOn _ _ (hsampled.emit _) fun _ hu id _ => hu.tune id
  · exact hsampled.emit _

theorem State.Grows.startAll (h : s.Grows t) : s.Grows t.startAll := by
  refine List.foldlRecOn _ _ h fun u hu id _ => ?_
  unfold State.bringUp
  split
  · exact hu
  · exact (hu.initStage id).startStage id

theorem State.Grows.stopAll (h : s.Grows t) : s.Grows t.stopAll := by
  refine List.foldlRecOn _ _ h fun u hu id _ => ?_
  unfold State.bringDown
  split
  · exact hu
  · exact hu.shutdownStage id

theorem State.Grows.advance (h : s.Grows t) (hu : t.advance = some u) : s.Grows u := by
  unfold State.advance at hu
  split at hu
  · split at hu <;> cases hu
    exact h
  · split at hu <;> cases hu
    exact h
  · cases hu
    exact h.same (by simp) (by simp) (by simp) (by simp)
  all_goals cases hu

end

theorem State.Does.grows {s t : State} (h : s.Does t) : s.Grows t := by
  have hs := State.Grows.refl s
  cases h with
  | nothing | read | write | writeBackAll | dropLines | setPC | flag => exact hs
  | redirect h =>
    obtain ⟨-, rfl⟩ := State.redirect_eq_some h
    exact hs
  | init id => exact hs.initStage id
  | start id => exact hs.startStage id
  | submit id r => exact hs.submit id r
  | shutdown id => exact hs.shutdownStage id
  | fetch => exact hs.fetchIteration
  | decode _ hp => exact hs.iterate .d hp.keeps
  | execute => exact hs.iterate .e (State.Grows.executeKeeps s).processE
  | writeback => exact hs.iterate .w fun r _ hu => hu.writeback r
  | completeHeavy =>
    exact ((State.Grows.executeKeeps s).executeInline _ ((State.Grows.executeKeeps s).own _ hs)).forward .e _
  | startAll => exact hs.startAll
  | stopAll => exact hs.stopAll
  | tick => exact hs.timerTick
  | advance h => exact hs.advance h
  | resize | beginFlush | exception => exact hs.same (by simp) (by simp) (by simp) (by simp)

theorem State.SameBlock.grows {s t : State} (h : s.SameBlock t) : s.Grows t := by
  obtain ⟨_, _, _, rfl⟩ := h
  exact State.Grows.refl s

/-- Settles O15: what an instruction other than `RESET` does only adds events, and writes register 31 and the configuration
nowhere; nor does `RESET`. -/
theorem nothingWritesThese : Obligations.NothingWritesThese := by
  intro i s t h
  rcases exec_next_cases h with ⟨u, hdoes, hsame⟩ | ⟨hreset, _, _, _, rfl⟩
  · obtain ⟨hcfg, hint, hfloat, hevents⟩ := hdoes.grows.trans hsame.grows
    exact ⟨hcfg, hint, hfloat, .inr hevents⟩
  · exact ⟨rfl, rfl, rfl, .inl hreset⟩

end Sys2Proof.Machine
end

section
/-! PROOFS. State (10_state.md): the gates, the queues, the flush count, and the controller's samples and ticks (R30 to R32,
R48, R49, R171, R180). -/

namespace Sys2Proof.Machine

/-! ## Gates (R31) -/

/-- A good stage that has `owed` permits out with no instruction in its queue: one while its worker processes the
instruction it has taken (R175), none between iterations. -/
def Stage.goodOwing (cap owed : Nat) (st : Stage) : Prop :=
  st.freePermits + owed + st.queue.length = st.maxInFlight ∧ 1 ≤ st.maxInFlight ∧ st.queue.length ≤ cap ∧
  st.stats.queueDepth = st.queue.length ∧ (st.life ≠ .running → st.queue = [] ∧ st.flushFlag = false)

theorem Stage.good_iff (cap : Nat) (st : Stage) : st.good cap ↔ st.goodOwing cap 0 := Iff.rfl

section
variable {cap owed : Nat} {st : Stage}

/-- Counters other than the queue's depth are free. -/
theorem Stage.goodOwing_count (h : st.goodOwing cap owed) {x : Stats} (hx : x.queueDepth = st.stats.queueDepth) :
    ({ st with stats := x } : Stage).goodOwing cap owed := by
  obtain ⟨hgate, hmax, hcap, hdepth, hidle⟩ := h
  exact ⟨hgate, hmax, hcap, hx.trans hdepth, hidle⟩

theorem Stage.accept_goodOwing (r : InstrRecord) (h : st.goodOwing cap owed) (hrun : st.life = .running)
    (hfree : st.freePermits ≠ 0) (hroom : st.queue.length ≠ cap) : (st.accept r).goodOwing cap owed := by
  obtain ⟨hgate, hmax, hcap, -, -⟩ := h
  refine ⟨?_, hmax, ?_, by simp [Stage.accept], fun hstop => absurd hrun hstop⟩ <;>
  · simp only [Stage.accept, List.length_append, List.length_singleton]
    omega

theorem raiseFlush_goodOwing (h : st.goodOwing cap owed) : (raiseFlush st).goodOwing cap owed := by
  unfold raiseFlush
  split
  · obtain ⟨hgate, hmax, hcap, hdepth, -⟩ := h
    exact ⟨hgate, hmax, hcap, hdepth, fun hstop => absurd ‹_› hstop⟩
  · exact h

theorem Stage.grow_goodOwing {n : Nat} (h : st.goodOwing cap owed) (hn : st.maxInFlight ≤ n) :
    (st.grow n).goodOwing cap owed := by
  obtain ⟨hgate, hmax, hcap, hdepth, hidle⟩ := h
  refine ⟨?_, hmax.trans hn, hcap, hdepth, hidle⟩
  simp only [Stage.grow]
  omega

/-- A shrink to a limit of at least 1 takes back free permits only (R179). -/
theorem Stage.shrink_goodOwing {n k : Nat} (h : st.goodOwing cap owed) (hn : n ≠ 0) (hk : k ≤ st.shrinkMax n) :
    (st.shrink k).goodOwing cap owed := by
  obtain ⟨hgate, hmax, hcap, hdepth, hidle⟩ := h
  obtain ⟨hlimit, hfree⟩ := Nat.le_min.mp hk
  refine ⟨?_, ?_, hcap, hdepth, hidle⟩ <;>
  · simp only [Stage.shrink]
    omega

theorem Stage.resetCounters_goodOwing (h : st.goodOwing cap owed) : st.resetCounters.goodOwing cap owed := by
  obtain ⟨hgate, hmax, hcap, -, hidle⟩ := h
  exact ⟨hgate, hmax, hcap, rfl, hidle⟩

/-- An empty stage with all its permits free. -/
theorem Stage.good_empty (hq : st.queue = []) (hgate : st.freePermits = st.maxInFlight) (hmax : 1 ≤ st.maxInFlight)
    (hdepth : st.stats.queueDepth = 0) (hflag : st.flushFlag = false) : st.good cap := by
  simp [Stage.good, hq, hgate, hmax, hdepth, hflag]

end

/-! ## The controller (R48, R49) -/

/-- The controller's records within their bounds. -/
def State.recordsGood (s : State) : Prop :=
  s.ctrl.pendingFlush ≤ 4 ∧
  (∀ id, (s.ctrl.utilSamples.get id).length ≤ s.cfg.rollingWindow ∧ ∀ u ∈ s.ctrl.utilSamples.get id, 0 ≤ u ∧ u ≤ 1) ∧
  ∀ t ∈ s.ctrl.excTicks, t ≤ s.ctrl.tick

/-- A flush is pending while Flushing, and a recovery is a flush in progress. -/
def CtrlState.flowGood (k : CtrlState) : Prop :=
  (k.pstate = .flushing → 1 ≤ k.pendingFlush) ∧ (k.recovering = true → k.pstate = .flushing)

theorem State.controlGood_iff (s : State) : s.controlGood ↔ s.recordsGood ∧ s.ctrl.flowGood := by
  simp only [State.controlGood, State.recordsGood, CtrlState.flowGood]
  tauto

theorem CtrlState.flowGood_idle {k : CtrlState} (hp : k.pstate ≠ .flushing) (hr : k.recovering = false) : k.flowGood :=
  ⟨fun h => absurd h hp, fun h => by rw [hr] at h; cases h⟩

/-- Outside Flushing no recovery is in progress. -/
theorem CtrlState.flowGood.not_recovering {k : CtrlState} (h : k.flowGood) (hp : k.pstate ≠ .flushing) : k.recovering = false :=
  Bool.eq_false_iff.mpr fun hr => hp (h.2 hr)

theorem CtrlState.flushAck_flowGood {k : CtrlState} (h : k.flowGood) : k.flushAck.flowGood := by
  unfold CtrlState.flushAck
  split
  · simp only
    split
    · exact CtrlState.flowGood_idle (by simp [CtrlState.flushDone]) rfl
    · exact ⟨fun _ => Nat.one_le_iff_ne_zero.mpr ‹_›, h.2⟩
  · exact h

theorem CtrlState.flushAck_records (k : CtrlState) : k.flushAck.pendingFlush ≤ k.pendingFlush ∧
    k.flushAck.utilSamples = k.utilSamples ∧ k.flushAck.excTicks = k.excTicks ∧ k.flushAck.tick = k.tick := by
  unfold CtrlState.flushAck
  split
  · simp only
    split
    · exact ⟨Nat.sub_le _ _, rfl, rfl, rfl⟩
    · exact ⟨Nat.sub_le _ _, rfl, rfl, rfl⟩
  · exact ⟨Nat.le_refl _, rfl, rfl, rfl⟩

/-! ## The arbiter with permits out -/

/-- Every stage is good, but for the permits it owes. -/
def State.gatesGood (owed : StageId → Nat) (s : State) : Prop :=
  ∀ id, (s.stage id).goodOwing (s.cfg.queueCap.get id) (owed id)

/-- The arbiter is good, but for the permits its stages owe. -/
def State.arbiterOwing (owed : StageId → Nat) (s : State) : Prop := s.gatesGood owed ∧ s.controlGood

/-- One permit, of the stage whose worker is processing an instruction. -/
def owedBy (id : StageId) : StageId → Nat := fun j => if j = id then 1 else 0

/-- No permits. -/
def owedNone : StageId → Nat := fun _ => 0

theorem State.arbiterGood_iff (s : State) : s.arbiterGood ↔ s.arbiterOwing owedNone := Iff.rfl

section
variable {owed : StageId → Nat} {s t : State}

theorem State.arbiterOwing.congr (hcfg : t.cfg = s.cfg) (hstages : t.stages = s.stages) (hctrl : t.ctrl = s.ctrl)
    (h : s.arbiterOwing owed) : t.arbiterOwing owed := by
  simpa only [State.arbiterOwing, State.gatesGood, State.stage, State.controlGood, hcfg, hstages, hctrl] using h

/-- One stage replaced: good as far as it owes what it may. -/
theorem State.gatesGood.setStage {owed' : StageId → Nat} (h : s.gatesGood owed) (id : StageId) {st : Stage}
    (hst : st.goodOwing (s.cfg.queueCap.get id) (owed' id)) (hother : ∀ j, j ≠ id → owed' j = owed j) :
    (s.setStage id st).gatesGood owed' := by
  intro j
  by_cases hj : j = id
  · subst hj
    simpa using hst
  · rw [s.setStage_stage_ne st hj, hother j hj]
    exact h j

theorem State.arbiterOwing.setStage (h : s.arbiterOwing owed) (id : StageId) {st : Stage}
    (hst : st.goodOwing (s.cfg.queueCap.get id) (owed id)) : (s.setStage id st).arbiterOwing owed :=
  ⟨h.1.setStage id hst fun _ _ => rfl, h.2⟩

theorem State.arbiterOwing.stall (h : s.arbiterOwing owed) (id : StageId) : (s.stall id).arbiterOwing owed :=
  h.setStage id (Stage.goodOwing_count (h.1 id) rfl)

theorem State.arbiterOwing.countProcessed (h : s.arbiterOwing owed) (id : StageId) (n : Nat) :
    (s.countProcessed id n).arbiterOwing owed := h.setStage id (Stage.goodOwing_count (h.1 id) rfl)

theorem State.arbiterOwing.submit (h : s.arbiterOwing owed) (id : StageId) (r : InstrRecord) :
    (s.submit id r).2.arbiterOwing owed := by
  cases hadmits : s.admits id with
  | true =>
    obtain ⟨hrun, hfree, hroom⟩ := (s.admits_iff id).mp hadmits
    rw [s.submit_accepted id r hadmits]
    exact h.setStage id (Stage.accept_goodOwing r (h.1 id) hrun hfree hroom)
  | false =>
    rw [s.submit_rejected id r hadmits]
    exact h.setStage id (Stage.goodOwing_count (h.1 id) rfl)

theorem State.arbiterOwing.forward (h : s.arbiterOwing owed) (id : StageId) (r : InstrRecord) :
    (s.forward id r).arbiterOwing owed := by
  unfold State.forward
  split
  · exact h
  · exact h.submit _ r

theorem State.arbiterOwing.flushAck (h : s.arbiterOwing owed) : s.flushAck.arbiterOwing owed := by
  obtain ⟨hgates, hcontrol⟩ := h
  obtain ⟨⟨hpending, hsamples, hticks⟩, hflow⟩ := s.controlGood_iff.mp hcontrol
  obtain ⟨hle, hsame, hexc, htick⟩ := s.ctrl.flushAck_records
  refine ⟨hgates, s.flushAck.controlGood_iff.mpr ⟨⟨hle.trans hpending, ?_, ?_⟩, CtrlState.flushAck_flowGood hflow⟩⟩
  · simpa [hsame] using hsamples
  · simpa [hexc, htick] using hticks

/-- The flush of every Running stage is asked for, whatever the controller was doing (R290). -/
theorem State.beginFlush_arbiter (hgates : s.gatesGood owed) (hrecords : s.recordsGood) :
    s.beginFlush.arbiterOwing owed := by
  obtain ⟨hpending, hrest⟩ := hrecords
  by_cases hnone : s.runningCount = 0
  · rw [s.beginFlush_none hnone]
    exact ⟨hgates, (State.controlGood_iff _).mpr ⟨⟨hpending, hrest⟩, CtrlState.flowGood_idle (by simp) rfl⟩⟩
  · rw [s.beginFlush_some hnone]
    refine ⟨fun id => ?_, (State.controlGood_iff _).mpr
      ⟨⟨s.runningCount_le, hrest⟩, fun _ => Nat.one_le_iff_ne_zero.mpr hnone, fun _ => rfl⟩⟩
    have := raiseFlush_goodOwing (hgates id)
    cases id <;> exact this

theorem State.arbiterOwing.beginFlush (h : s.arbiterOwing owed) : s.beginFlush.arbiterOwing owed :=
  State.beginFlush_arbiter h.1 (s.controlGood_iff.mp h.2).1

theorem State.arbiterOwing.controllerException (h : s.arbiterOwing owed) (v : Nat) (pc : Word) :
    (s.controllerException v pc).arbiterOwing owed := by
  obtain ⟨hgates, hcontrol⟩ := h
  obtain ⟨⟨hpending, hsamples, hticks⟩, hflow⟩ := s.controlGood_iff.mp hcontrol
  refine ⟨hgates, (State.controlGood_iff _).mpr ⟨⟨hpending, hsamples, fun t ht => ?_⟩, ?_⟩⟩
  · rcases List.mem_append.mp ht with hold | hnew
    · exact hticks t hold
    · exact (List.mem_singleton.mp hnew).le
  · by_cases hrun : s.ctrl.pstate = .running
    · have hrec := hflow.not_recovering (by simp [hrun])
      exact CtrlState.flowGood_idle (by simp [State.controllerException, hrun]) hrec
    · simpa [State.controllerException, CtrlState.flowGood, hrun] using hflow

theorem State.arbiterOwing.fetched (h : s.arbiterOwing owed) (pc : Word) (w : IWord) : (s.fetched pc w).arbiterOwing owed :=
  State.arbiterOwing.forward (State.arbiterOwing.congr (by simp) (by simp) (by simp)
    (State.arbiterOwing.countProcessed (s := s.draw.2) h .f s.draw.1)) .f _

/-! ## Writeback, which may stall, flush or take an exception (R265) -/

theorem State.arbiterOwing.resolveBranch (h : s.arbiterOwing owed) (r : InstrRecord) :
    (s.resolveBranch r).arbiterOwing owed := by
  unfold State.resolveBranch
  simp only
  split
  · have hredirected := State.arbiterOwing.congr (t := (({ s with wb := s.wb.countBranch (branchTaken r) } : State).emit
      (.branchResolved r.pc (branchTaken r) (realizedTarget r))).branchRedirect (realizedTarget r)) (by simp) (by simp) (by simp) h
    unfold State.controllerBranch
    split
    · exact hredirected.beginFlush
    · exact hredirected
  · exact h

theorem State.arbiterOwing.commit (h : s.arbiterOwing owed) (r : InstrRecord) : (s.commit r).arbiterOwing owed := by
  have hload : (if r.isLoad then s.writeLoad r else s).arbiterOwing owed := by
    split
    · exact h.congr (by simp) (by simp) (by simp)
    · exact h
  unfold State.commit
  simp only
  split
  · exact hload.resolveBranch r
  · exact hload

theorem State.arbiterOwing.writeback (h : s.arbiterOwing owed) (r : InstrRecord) : (s.writeback r).arbiterOwing owed := by
  unfold State.writeback
  split
  · split
    · exact State.arbiterOwing.controllerException h r.excVector r.pc
    · exact h.commit r
  · exact State.arbiterOwing.stall h .w

end

/-! ## The worker (R174 to R182) -/

section
variable {s : State}

theorem State.arbiterGood.gate (h : s.arbiterGood) (id : StageId) :
    (s.stage id).goodOwing (s.cfg.queueCap.get id) 0 := (Stage.good_iff _ _).mp (h.1 id)

theorem State.arbiterGood.setStage (h : s.arbiterGood) (id : StageId) {st : Stage} (hst : st.good (s.cfg.queueCap.get id)) :
    (s.setStage id st).arbiterGood := State.arbiterOwing.setStage (owed := owedNone) h id hst

/-- The instruction taken off the queue keeps its permit (R175). -/
theorem State.arbiterGood.dequeue (h : s.arbiterGood) (id : StageId) {r : InstrRecord} {rest : List InstrRecord}
    (hq : (s.stage id).queue = r :: rest) : (s.dequeue id).arbiterOwing (owedBy id) := by
  obtain ⟨hgates, hcontrol⟩ := h
  obtain ⟨hgate, hmax, hcap, -, hidle⟩ := hgates id
  refine ⟨State.gatesGood.setStage (owed := owedNone) hgates id ?_ fun j hj => if_neg hj, hcontrol⟩
  have hrun : (s.stage id).life = .running := by
    by_contra hstop
    exact absurd (hq.symm.trans (hidle hstop).1) (by simp)
  rw [hq, List.length_cons] at hgate hcap
  refine ⟨?_, hmax, ?_, by simp, fun hstop => absurd hrun hstop⟩
  · simp only [hq, List.tail_cons, owedBy, if_true]
    omega
  · simp only [hq, List.tail_cons]
    omega

theorem State.arbiterOwing.releasePermit {id : StageId} (h : s.arbiterOwing (owedBy id)) : (s.releasePermit id).arbiterGood := by
  obtain ⟨hgates, hcontrol⟩ := h
  obtain ⟨hgate, hrest⟩ := hgates id
  refine ⟨State.gatesGood.setStage (owed' := owedNone) hgates id ⟨?_, hrest⟩ fun j hj => (if_neg hj).symm, hcontrol⟩
  simp only [owedBy, if_true] at hgate
  simp only [owedNone]
  omega

theorem State.arbiterGood.work (h : s.arbiterGood) (id : StageId) {p : Process}
    (hp : ∀ r u, State.arbiterOwing (owedBy id) u → State.arbiterOwing (owedBy id) (p r u).2) {r : InstrRecord}
    {rest : List InstrRecord} (hq : (s.stage id).queue = r :: rest) : (s.work id p r).arbiterGood := by
  have hprocessed := hp r (s.dequeue id).draw.2 (State.arbiterGood.dequeue h id hq)
  unfold State.work
  simp only
  split <;> rename_i hres <;> rw [hres] at hprocessed
  · exact ((hprocessed.countProcessed id _).forward id _).releasePermit
  · exact (hprocessed.countProcessed id _).releasePermit
  · exact (hprocessed.stall id).releasePermit

theorem State.arbiterGood.flushHere (h : s.arbiterGood) (id : StageId) : (s.flushHere id).arbiterGood := by
  obtain ⟨hgate, hmax, -⟩ := h.1 id
  exact State.arbiterOwing.flushAck (owed := owedNone)
    (State.arbiterGood.setStage h id (Stage.good_empty rfl hgate hmax rfl rfl))

theorem State.arbiterGood.iterate (h : s.arbiterGood) (id : StageId) {p : Process}
    (hp : ∀ r u, State.arbiterOwing (owedBy id) u → State.arbiterOwing (owedBy id) (p r u).2) :
    (s.iterate id p).arbiterGood := by
  unfold State.iterate
  split
  · exact State.arbiterGood.flushHere h id
  · split
    · unfold State.timeout
      split
      · exact State.arbiterOwing.stall (owed := owedNone) h id
      · exact h
    · exact State.arbiterGood.work h id hp ‹_›

theorem State.arbiterGood.fetchIteration (h : s.arbiterGood) : s.fetchIteration.arbiterGood := by
  have hread : (({ s with fetch := s.fetch.applyRedirect } : State).fetchInstruction
      s.fetch.applyRedirect.nextPC).2.arbiterOwing owedNone :=
    State.arbiterOwing.congr (by simp) (by simp) (by simp) h
  unfold State.fetchIteration
  split
  · obtain ⟨-, hmax, -⟩ := h.1 .f
    exact State.arbiterOwing.flushAck (owed := owedNone)
      (State.arbiterGood.setStage h .f (Stage.good_empty rfl rfl hmax rfl rfl))
  · simp only
    split <;> rename_i hres <;> rw [hres] at hread
    · exact hread.fetched _ _
    · exact hread.stall .f

/-! ## Starting, stopping and resizing (R171, R172, R179, R180) -/

theorem Config.maxInFlightInit_pos {c : Config} (h : c.ok = true) (id : StageId) : 1 ≤ c.maxInFlightInit.get id := by
  obtain ⟨-, -, -, hstages, -⟩ := (Config.ok_iff c).mp h
  have := hstages id
  simp only [Config.stageOk, Bool.and_eq_true, decide_eq_true_eq] at this
  exact this.2

theorem State.arbiterGood.initStage (hok : s.cfg.ok = true) (h : s.arbiterGood) (id : StageId) : (s.initStage id).arbiterGood := by
  have hset := State.arbiterGood.setStage (st := { resetStage s.cfg id with life := .ready }) h id
    (Stage.good_empty rfl rfl (Config.maxInFlightInit_pos hok id) rfl rfl)
  exact State.arbiterOwing.congr (owed := owedNone) (by simp) (by simp [State.initStage]) (by simp) hset

theorem State.arbiterGood.startStage (h : s.arbiterGood) (id : StageId) : (s.startStage id).arbiterGood := by
  obtain ⟨hgate, hmax, hcap, hdepth, -⟩ := h.1 id
  exact State.arbiterGood.setStage h id ⟨hgate, hmax, hcap, hdepth, fun hstop => absurd rfl hstop⟩

theorem State.arbiterGood.shutdownStage (h : s.arbiterGood) (id : StageId) : (s.shutdownStage id).arbiterGood := by
  obtain ⟨-, hmax, -⟩ := h.1 id
  have hset := State.arbiterGood.setStage
    (st := { s.stage id with queue := [], stats := { (s.stage id).stats with queueDepth := 0 },
                             freePermits := (s.stage id).maxInFlight, flushFlag := false, life := .stopped })
    h id (Stage.good_empty rfl rfl hmax rfl rfl)
  exact State.arbiterOwing.congr (owed := owedNone) (by simp) (by simp [State.shutdownStage]) (by simp) hset

theorem State.arbiterGood.resize (h : s.arbiterGood) (id : StageId) {n : Nat} (hn : n ≠ 0) : (s.resize id n).arbiterGood := by
  by_cases hgrow : (s.stage id).maxInFlight ≤ n
  · rw [s.resize_grow id n hgrow]
    exact State.arbiterGood.setStage h id (Stage.grow_goodOwing (State.arbiterGood.gate h id) hgrow)
  · rw [s.resize_shrink id n hgrow]
    exact State.arbiterGood.setStage (s := s.draw.2) h id
      (Stage.shrink_goodOwing (State.arbiterGood.gate h id) hn (Nat.lt_succ_iff.mp (Nat.mod_lt _ (Nat.succ_pos _))))

theorem State.adjustRefusal_none {id : StageId} {n : Nat} (h : s.adjustRefusal id n = none) : n ≠ 0 := by
  rintro rfl
  unfold State.adjustRefusal at h
  split at h <;> simp at h

theorem State.arbiterGood.adjust (h : s.arbiterGood) (id : StageId) (n : Nat) : (s.adjust id n).arbiterGood := by
  unfold State.adjust
  split
  · exact h
  · exact State.arbiterGood.resize h id (State.adjustRefusal_none ‹_›)

/-! ## The controller's own steps (R285 to R297) -/

/-- The controller moves between two states that are not Flushing. -/
theorem State.arbiterGood.setPState (h : s.arbiterGood) {p : PState} (hfrom : s.ctrl.pstate ≠ .flushing) (hto : p ≠ .flushing) :
    (s.setPState p).arbiterGood := by
  obtain ⟨hgates, hcontrol⟩ := h
  obtain ⟨hrecords, hflow⟩ := s.controlGood_iff.mp hcontrol
  exact ⟨hgates, (State.controlGood_iff _).mpr ⟨hrecords, CtrlState.flowGood_idle hto (hflow.not_recovering hfrom)⟩⟩

theorem State.recordsGood.clearSamples (h : s.recordsGood) :
    ({ s with ctrl := { s.ctrl with utilSamples := ⟨[], [], [], []⟩ } } : State).recordsGood := by
  obtain ⟨hpending, -, hticks⟩ := h
  refine ⟨hpending, fun id => ?_, hticks⟩
  cases id <;> simp

theorem State.arbiterGood.bringUp (hok : s.cfg.ok = true) (h : s.arbiterGood) (id : StageId) : (s.bringUp id).arbiterGood := by
  unfold State.bringUp
  split
  · exact h
  · exact State.arbiterGood.startStage (State.arbiterGood.initStage hok h id) id

theorem State.arbiterGood.bringUps : ∀ (ids : List StageId) {s : State}, s.cfg.ok = true → s.arbiterGood →
    (ids.foldl State.bringUp s).arbiterGood
  | [], _, _, h => h
  | id :: ids, s, hok, h =>
    State.arbiterGood.bringUps ids ((s.bringUp_frame id).1 ▸ hok) (State.arbiterGood.bringUp hok h id)

theorem State.arbiterGood.startAll (hok : s.cfg.ok = true) (h : s.arbiterGood) (hstopped : s.ctrl.pstate = .stopped) :
    s.startAll.arbiterGood := by
  have hcleared : State.arbiterGood { s with ctrl := { s.ctrl with pstate := .starting, utilSamples := ⟨[], [], [], []⟩ } } := by
    obtain ⟨hgates, hcontrol⟩ := h
    obtain ⟨hrecords, hflow⟩ := s.controlGood_iff.mp hcontrol
    exact ⟨hgates, (State.controlGood_iff _).mpr
      ⟨hrecords.clearSamples, CtrlState.flowGood_idle (by simp) (hflow.not_recovering (by simp [hstopped]))⟩⟩
  exact State.arbiterGood.bringUps StageId.fromLast hok hcleared

theorem State.arbiterGood.stopAll (h : s.arbiterGood) (hrun : s.ctrl.pstate = .running) : s.stopAll.arbiterGood := by
  refine List.foldlRecOn _ _ (State.arbiterGood.setPState h (by simp [hrun]) (by simp)) fun u hu id _ => ?_
  unfold State.bringDown
  split
  · exact hu
  · exact State.arbiterGood.shutdownStage hu id

theorem State.arbiterGood.resetPerformanceCounters (h : s.arbiterGood) : s.resetPerformanceCounters.arbiterGood := by
  obtain ⟨hgates, hcontrol⟩ := h
  obtain ⟨hrecords, hflow⟩ := s.controlGood_iff.mp hcontrol
  refine ⟨fun id => ?_, (State.controlGood_iff _).mpr ⟨hrecords.clearSamples, hflow⟩⟩
  have := Stage.resetCounters_goodOwing (owed := 0) (hgates id)
  cases id <;> exact this

/-- Forgetting exceptions (R294). -/
theorem State.arbiterGood.dropTicks (h : s.arbiterGood) {ticks : List Nat} (hsub : ticks ⊆ s.ctrl.excTicks) :
    State.arbiterGood { s with ctrl := { s.ctrl with excTicks := ticks } } := by
  obtain ⟨hgates, hcontrol⟩ := h
  obtain ⟨⟨hpending, hsamples, hticks⟩, hflow⟩ := s.controlGood_iff.mp hcontrol
  exact ⟨hgates, (State.controlGood_iff _).mpr ⟨⟨hpending, hsamples, fun t ht => hticks t (hsub ht)⟩, hflow⟩⟩

theorem State.arbiterGood.recover (h : s.arbiterGood) : s.recover.arbiterGood := by
  have hrecent := State.arbiterGood.dropTicks h (ticks := s.recentTicks) (List.filter_subset_self _)
  have hflush {u : State} (hu : u.arbiterGood) :
      (State.beginFlush { u with ctrl := { u.ctrl with recovering := true } }).arbiterGood :=
    State.beginFlush_arbiter (owed := owedNone) hu.1 (u.controlGood_iff.mp hu.2).1
  unfold State.recover
  simp only
  split
  · exact hflush (State.arbiterGood.dropTicks (State.arbiterGood.resetPerformanceCounters hrecent) (List.nil_subset _))
  · exact hflush hrecent

theorem State.arbiterGood.advance (h : s.arbiterGood) {u : State} (hu : s.advance = some u) : u.arbiterGood := by
  unfold State.advance at hu
  split at hu <;> rename_i hp
  · split at hu <;> cases hu
    exact State.arbiterGood.setPState h (by simp [hp]) (by simp)
  · split at hu <;> cases hu
    exact State.arbiterGood.setPState h (by simp [hp]) (by simp)
  · cases hu
    exact State.arbiterGood.recover h
  all_goals cases hu

/-! ## The timer (R296, R297) -/

/-- The occupancy of a good stage is at most what it can hold. -/
theorem State.arbiterGood.utilization (h : s.arbiterGood) (id : StageId) : 0 ≤ s.utilization id ∧ s.utilization id ≤ 1 := by
  obtain ⟨hgate, -, hcap, -⟩ := h.1 id
  have hfits : (s.stage id).queue.length ≤ min (s.cfg.queueCap.get id) (s.stage id).maxInFlight :=
    Nat.le_min.mpr ⟨hcap, by omega⟩
  exact ⟨div_nonneg (Nat.cast_nonneg _) (Nat.cast_nonneg _),
    div_le_one_of_le₀ (Nat.cast_le.mpr hfits) (Nat.cast_nonneg _)⟩

theorem lastN_length_le {α : Type} (n : Nat) (l : List α) : (lastN n l).length ≤ n := by
  simp only [lastN, List.length_drop]
  omega

theorem State.arbiterGood.sample (h : s.arbiterGood) (id : StageId) : (s.sample id).arbiterGood := by
  have hnew := State.arbiterGood.utilization h id
  obtain ⟨hgates, hcontrol⟩ := h
  obtain ⟨⟨hpending, hsamples, hticks⟩, hflow⟩ := s.controlGood_iff.mp hcontrol
  refine ⟨hgates, (State.controlGood_iff _).mpr ⟨⟨hpending, fun j => ?_, hticks⟩, hflow⟩⟩
  simp only [State.sample, StageMap.get_set]
  split
  · refine ⟨lastN_length_le _ _, fun u hu => ?_⟩
    rcases List.mem_append.mp (List.mem_of_mem_drop hu) with hold | hlast
    · exact (hsamples id).2 u hold
    · rw [List.mem_singleton.mp hlast]
      exact hnew
  · exact hsamples j

theorem State.arbiterGood.tune (h : s.arbiterGood) (id : StageId) : (s.tune id).arbiterGood := by
  unfold State.tune
  simp only
  split
  · split
    · exact State.arbiterGood.adjust (s := s.emit _) h id _
    · exact h
  · split
    · split
      · exact State.arbiterGood.adjust h id _
      · exact h
    · exact h

theorem State.arbiterGood.timerTick (h : s.arbiterGood) : s.timerTick.arbiterGood := by
  have hticked : State.arbiterGood { s with ctrl := { s.ctrl with tick := s.ctrl.tick + 1 } } := by
    obtain ⟨hgates, hcontrol⟩ := h
    obtain ⟨⟨hpending, hsamples, hticks⟩, hflow⟩ := s.controlGood_iff.mp hcontrol
    exact ⟨hgates, (State.controlGood_iff _).mpr
      ⟨⟨hpending, hsamples, fun t ht => Nat.le_succ_of_le (hticks t ht)⟩, hflow⟩⟩
  have hsampled : (StageId.all.foldl State.sample { s with ctrl := { s.ctrl with tick := s.ctrl.tick + 1 } }).arbiterGood :=
    List.foldlRecOn _ _ hticked fun _ hu id _ => State.arbiterGood.sample hu id
  unfold State.timerTick
  simp only
  split
  · exact List.foldlRecOn (motive := State.arbiterGood) _ _ hsampled fun _ hu id _ => State.arbiterGood.tune hu id
  · exact hsampled

/-! ## Reset and the step -/

theorem resetStages_get (c : Config) (id : StageId) : (resetStages c).get id = resetStage c id := by cases id <;> rfl

theorem State.arbiterGood_reset (hok : s.cfg.ok = true) (hstages : s.stages = resetStages s.cfg) (hctrl : s.ctrl = resetCtrl) :
    s.arbiterGood := by
  refine ⟨fun id => ?_, s.controlGood_iff.mpr ⟨⟨?_, fun id => ?_, ?_⟩, ?_⟩⟩
  · rw [State.stage, hstages, resetStages_get]
    exact Stage.good_empty rfl rfl (Config.maxInFlightInit_pos hok id) rfl rfl
  · simp [hctrl, resetCtrl]
  · cases id <;> simp [hctrl, resetCtrl]
  · simp [hctrl, resetCtrl]
  · exact CtrlState.flowGood_idle (by simp [hctrl, resetCtrl]) (by simp [hctrl, resetCtrl])

end

theorem State.Does.arbiterGood {s t : State} (hok : s.cfg.ok = true) (h : s.Does t) (hs : s.arbiterGood) : t.arbiterGood := by
  have hs' := s.arbiterGood_iff.mp hs
  cases h with
  | nothing => exact hs
  | read | write | writeBackAll | dropLines | setPC => exact hs
  | redirect h =>
    obtain ⟨-, rfl⟩ := State.redirect_eq_some h
    exact hs
  | init id => exact State.arbiterGood.initStage hok hs id
  | start id => exact State.arbiterGood.startStage hs id
  | submit id r => exact hs'.submit id r
  | resize id n h => exact State.arbiterGood.resize hs id (State.adjustRefusal_none h)
  | shutdown id => exact State.arbiterGood.shutdownStage hs id
  | flag id hrun =>
    obtain ⟨hgate, hmax, hcap, hdepth, -⟩ := hs.1 id
    exact hs'.setStage id ⟨hgate, hmax, hcap, hdepth, fun hstop => absurd ((s.running_iff id).mp hrun) hstop⟩
  | fetch => exact State.arbiterGood.fetchIteration hs
  | decode _ hp => exact State.arbiterGood.iterate hs .d hp.keeps
  | execute =>
    refine State.arbiterGood.iterate hs .e fun r u hu => ?_
    obtain ⟨hcfg, hstages, -, -, hctrl, -⟩ := processE_frame u r
    exact hu.congr hcfg hstages hctrl
  | writeback => exact State.arbiterGood.iterate hs .w fun r _ hu => hu.writeback r
  | completeHeavy =>
    obtain ⟨hcfg, hstages, -, -, hctrl, -⟩ := executeInline_frame (s.takeHeavy _) _
    exact State.arbiterOwing.forward (owed := owedNone) (hs'.congr hcfg hstages hctrl) .e _
  | startAll h => exact State.arbiterGood.startAll hok hs h
  | stopAll h => exact State.arbiterGood.stopAll hs h
  | beginFlush => exact hs'.beginFlush
  | exception v pc => exact hs'.controllerException v pc
  | tick => exact State.arbiterGood.timerTick hs
  | advance h => exact State.arbiterGood.advance hs h

/-- Settles O10: a worker owes the gate one permit while it processes an instruction, and gives it back; Flushing is entered
with as many acknowledgements to come as stages run. -/
theorem stepKeepsArbiter : Obligations.StepKeepsArbiter := fun _ _ =>
  step_keeps (fun ⟨_, _, _, heq⟩ hs => heq ▸ hs) (fun hok hs h => h.arbiterGood hok hs)
    (fun hok _ => State.arbiterGood_reset hok rfl rfl)

end Sys2Proof.Machine
end

section
/-! PROOFS. State (10_state.md): the state after reset, and what `RESET` brings about (R66, R340, R341). -/

namespace Sys2Proof.Machine

/-! ## An empty hierarchy -/

theorem resetCaches_noneValid (c : Config) {m : MemSys} (h : m.caches = resetCaches c) : m.noneValid := by
  intro l st hst ln hln
  rw [MemSys.level, h, resetCaches_get] at hst
  rw [List.eq_of_mem_replicate hst] at hln
  rw [List.eq_of_mem_replicate hln]
  rfl

/-- A copy of an address is a valid line of some set. -/
theorem MemSys.copyAt_mem {c : Config} {m : MemSys} {l : Level} {a : Word} {ln : CacheLine} (h : m.copyAt c l a = some ln) :
    ln.valid = true ∧ ∃ st ∈ (m.level l).sets, ln ∈ st.ways := by
  have htag := List.find?_some h
  have hmem := List.mem_of_find?_eq_some h
  refine ⟨(Bool.and_eq_true_iff.mp htag).1, ?_⟩
  rw [MemSys.setAt, CacheLevel.setAt, List.getD_eq_getElem?_getD] at hmem
  cases hat : (m.level l).sets[c.indexOf l a]? with
  | none =>
    rw [hat] at hmem
    cases hmem
  | some st =>
    rw [hat] at hmem
    exact ⟨st, List.mem_of_getElem? hat, hmem⟩

/-- With no copy anywhere there is none to disagree (R82). -/
theorem MemSys.noneValid.coherent {m : MemSys} (h : m.noneValid) (c : Config) : m.coherent c := by
  intro l _ a ln hcopy
  obtain ⟨hvalid, st, hst, hln⟩ := MemSys.copyAt_mem hcopy
  rw [h l st hst ln hln] at hvalid
  cases hvalid

/-! ## The state after reset -/

/-- The configuration of the test vectors keeps every constraint (R344; notes: entry 1). -/
theorem reset_cfg_ok : State.reset.cfg.ok = true := by decide +kernel

/-- Settles O14: every part holds its reset value, which is good under any legal configuration. -/
theorem resetIsGood : Obligations.ResetIsGood :=
  ⟨reset_cfg_ok, MemSys.good_resetCaches (m := State.reset.sys) Memory.empty_wf,
    (resetCaches_noneValid vectorConfig (m := State.reset.sys) rfl).coherent _, State.arbiterGood_reset reset_cfg_ok rfl rfl,
    State.fetchGood_resetFetch (Config.ok_resetPC reset_cfg_ok) rfl, State.execGood_resetExec rfl, State.logGood_resetWb rfl⟩

/-! ## `RESET` -/

/-- What a level holds after reset (R23, R26, R66). -/
theorem resetLevel_holds (c : Config) (l : Level) :
    (resetLevel c l).hits = 0 ∧ (resetLevel c l).misses = 0 ∧ (resetLevel c l).evictions = 0 ∧
    (resetLevel c l).writebacks = 0 ∧ (resetLevel c l).sets.length = c.numSets l ∧
    ∀ st ∈ (resetLevel c l).sets, st.accessCounter = 0 ∧ st.ways.length = c.assoc.get l ∧
      ∀ ln ∈ st.ways, ln = ⟨0, false, false, .invalid, 0, List.replicate c.lineSize 0⟩ := by
  refine ⟨rfl, rfl, rfl, rfl, List.length_replicate, fun st hst => ?_⟩
  rw [List.eq_of_mem_replicate hst]
  exact ⟨rfl, List.length_replicate, fun ln hln => List.eq_of_mem_replicate hln⟩

theorem State.resetBlock_level (s : State) (l : Level) : s.resetBlock.sys.level l = resetLevel s.cfg l :=
  resetCaches_get s.cfg l

/-- Settles O18: each part of the block is at its reset value, and what is beside the block is as it was. -/
theorem resetCommand : Obligations.ResetCommand := by
  refine ⟨rfl, fun s => ⟨s.resetBlock.okay, rfl, rfl, State.readInt_31 _, State.readFloat_31 _, rfl, rfl, rfl, rfl, rfl, rfl,
    rfl, rfl, fun l => ?_, fun id => resetStages_get s.cfg id, rfl, rfl, rfl, rfl, List.length_replicate,
    fun e he => List.eq_of_mem_replicate he, rfl, rfl, rfl, rfl⟩⟩
  rw [State.okay_sys, s.resetBlock_level]
  exact resetLevel_holds s.cfg l

end Sys2Proof.Machine
end

section
/-! PROOFS. Memory (40_cache_ops.md): addresses of a legal geometry as numbers (R24, R131, R132), and the line they lie in. -/

namespace Sys2Proof

variable {c : Config}

/-! ## The parts of an address as numbers (R131, R132) -/

theorem Config.lineSize_pos (h : c.ok = true) : 0 < c.lineSize := c.lineSize_eq h ▸ Nat.two_pow_pos _

theorem Config.lineSize_lt (h : c.ok = true) : c.lineSize < 2 ^ 64 := by
  have hbits := c.bits_le h .l1d
  exact c.lineSize_eq h ▸ Nat.pow_lt_pow_right (by decide) (by omega)

theorem Config.numSets_eq (h : c.ok = true) (l : Level) : c.numSets l = 2 ^ c.indexBits l := by
  have hlevel := Config.ok_levelOk h l
  simp only [Config.levelOk, Bool.and_eq_true] at hlevel
  obtain ⟨⟨⟨⟨-, hpow⟩, -⟩, -⟩, -⟩ := hlevel
  exact beq_iff_eq.mp hpow

theorem Config.offsetOf_eq (h : c.ok = true) (a : Word) : c.offsetOf a = a.toNat % c.lineSize := by
  have hlt := c.lineSize_lt h
  rw [Config.offsetOf, Config.offsetMask, BitVec.toNat_and, BitVec.toNat_ofNat, Nat.mod_eq_of_lt (by omega),
    c.lineSize_eq h, Nat.and_two_pow_sub_one_eq_mod]

theorem Config.offsetOf_lt (h : c.ok = true) (a : Word) : c.offsetOf a < c.lineSize :=
  c.offsetOf_eq h a ▸ Nat.mod_lt _ (c.lineSize_pos h)

theorem Config.indexOf_eq (h : c.ok = true) (l : Level) (a : Word) :
    c.indexOf l a = a.toNat / c.lineSize % c.numSets l := by
  have hbits := c.bits_le h l
  have hlt : c.numSets l < 2 ^ 64 := c.numSets_eq h l ▸ Nat.pow_lt_pow_right (by decide) (by omega)
  rw [Config.indexOf, BitVec.toNat_and, BitVec.toNat_ofNat, Nat.mod_eq_of_lt (by omega), BitVec.toNat_ushiftRight,
    Nat.shiftRight_eq_div_pow, c.numSets_eq h, Nat.and_two_pow_sub_one_eq_mod, c.lineSize_eq h]

theorem Config.toNat_tagOf (h : c.ok = true) (l : Level) (a : Word) :
    (c.tagOf l a).toNat = a.toNat / c.lineSize / c.numSets l := by
  rw [Config.tagOf, BitVec.toNat_ushiftRight, Nat.shiftRight_eq_div_pow, pow_add, ← Nat.div_div_eq_div_mul,
    c.lineSize_eq h, c.numSets_eq h]

/-- A line address is the address less its offset (R132). -/
theorem Config.lineAddr_add_offset (c : Config) (a : Word) : (c.lineAddr a).toNat + c.offsetOf a = a.toNat := by
  have hdisjoint : c.lineAddr a &&& (a &&& c.offsetMask) = 0#64 := by
    ext j hj
    simp only [Config.lineAddr, BitVec.getElem_and, BitVec.getElem_not, BitVec.getElem_zero]
    cases c.offsetMask[j] <;> simp
  have hsum : c.lineAddr a + (a &&& c.offsetMask) = a := by
    rw [BitVec.add_eq_or_of_and_eq_zero _ _ hdisjoint]
    ext j hj
    simp only [Config.lineAddr, BitVec.getElem_or, BitVec.getElem_and, BitVec.getElem_not]
    cases c.offsetMask[j] <;> simp
  have hle : (a &&& c.offsetMask).toNat ≤ a.toNat := by
    rw [BitVec.toNat_and]
    exact Nat.and_le_left
  have hnat := congrArg BitVec.toNat hsum
  rw [BitVec.toNat_add] at hnat
  unfold Config.offsetOf
  have hline : (c.lineAddr a).toNat ≤ a.toNat := by
    rw [Config.lineAddr, BitVec.toNat_and]
    exact Nat.and_le_left
  have := a.isLt
  omega

theorem Config.toNat_lineAddr (h : c.ok = true) (a : Word) :
    (c.lineAddr a).toNat = c.lineSize * (a.toNat / c.lineSize) := by
  have hsum := c.lineAddr_add_offset a
  rw [c.offsetOf_eq h] at hsum
  have := Nat.div_add_mod a.toNat c.lineSize
  omega

/-- The address a level composes of a tag, an index and an offset that fit (R132). -/
theorem Config.toNat_compose (h : c.ok = true) {l : Level} {tag : Word} {i k : Nat} (htag : tag.toNat < 2 ^ c.tagBits l)
    (hi : i < c.numSets l) (hk : k < c.lineSize) :
    (c.compose l tag i k).toNat = c.lineSize * (c.numSets l * tag.toNat + i) + k := by
  have hbits := c.bits_le h l
  have hk64 : k < 2 ^ 64 := hk.trans (c.lineSize_lt h)
  have hi64 : i < 2 ^ 64 := hi.trans (c.numSets_eq h l ▸ Nat.pow_lt_pow_right (by decide) (by omega))
  rw [c.lineSize_eq h] at hk ⊢
  rw [c.numSets_eq h] at hi ⊢
  have hlow : 2 ^ c.offsetBits * i + k < 2 ^ (c.offsetBits + c.indexBits l) := by
    rw [pow_add]
    calc 2 ^ c.offsetBits * i + k < 2 ^ c.offsetBits * (i + 1) := by rw [Nat.mul_add]; omega
      _ ≤ _ := Nat.mul_le_mul_left _ hi
  have hhigh : tag.toNat * 2 ^ (c.offsetBits + c.indexBits l) < 2 ^ 64 := by
    have hsplit : 2 ^ 64 = 2 ^ c.tagBits l * 2 ^ (c.offsetBits + c.indexBits l) := by
      rw [← pow_add, Config.tagBits]
      congr 1
      omega
    rw [hsplit]
    exact Nat.mul_lt_mul_of_pos_right htag (Nat.two_pow_pos _)
  have hmid : i * 2 ^ c.offsetBits < 2 ^ 64 := by
    have hle : 2 ^ (c.offsetBits + c.indexBits l) ≤ 2 ^ 64 := Nat.pow_le_pow_right (by decide) (by omega)
    rw [Nat.mul_comm]
    omega
  rw [Config.compose, BitVec.toNat_or, BitVec.toNat_or, BitVec.toNat_shiftLeft, BitVec.toNat_shiftLeft,
    BitVec.toNat_ofNat, BitVec.toNat_ofNat, Nat.mod_eq_of_lt hk64, Nat.mod_eq_of_lt hi64, Nat.shiftLeft_eq,
    Nat.shiftLeft_eq, Nat.mod_eq_of_lt hhigh, Nat.mod_eq_of_lt hmid, Nat.or_assoc, Nat.mul_comm i,
    ← Nat.two_pow_add_eq_or_of_lt hk, Nat.mul_comm tag.toNat, ← Nat.two_pow_add_eq_or_of_lt hlow, pow_add]
  ring

/-! ## The line of an address -/

/-- Two addresses lie in one line where, at any level, they have the same index and tag (R131, R132). -/
theorem Config.lineAddr_eq_iff (h : c.ok = true) (l : Level) (x y : Word) :
    c.lineAddr x = c.lineAddr y ↔ c.indexOf l x = c.indexOf l y ∧ c.tagOf l x = c.tagOf l y := by
  have hpos := c.lineSize_pos h
  rw [BitVec.toNat_eq, BitVec.toNat_eq, c.toNat_lineAddr h, c.toNat_lineAddr h, c.indexOf_eq h, c.indexOf_eq h,
    c.toNat_tagOf h, c.toNat_tagOf h, Nat.mul_right_inj hpos.ne']
  refine ⟨fun heq => by rw [heq]; exact ⟨rfl, rfl⟩, fun ⟨hmod, hdiv⟩ => ?_⟩
  rw [← Nat.div_add_mod (x.toNat / c.lineSize) (c.numSets l), hmod, hdiv, Nat.div_add_mod]

theorem Config.lineAddr_eq_iff_div (h : c.ok = true) (x y : Word) :
    c.lineAddr x = c.lineAddr y ↔ x.toNat / c.lineSize = y.toNat / c.lineSize := by
  rw [BitVec.toNat_eq, c.toNat_lineAddr h, c.toNat_lineAddr h, Nat.mul_right_inj (c.lineSize_pos h).ne']

theorem Config.lineAddr_lineAddr (c : Config) (a : Word) : c.lineAddr (c.lineAddr a) = c.lineAddr a := by
  simp [Config.lineAddr, BitVec.and_assoc]

theorem Config.indexOf_lineAddr (h : c.ok = true) (l : Level) (a : Word) : c.indexOf l (c.lineAddr a) = c.indexOf l a :=
  ((c.lineAddr_eq_iff h l _ _).mp (c.lineAddr_lineAddr a)).1

theorem Config.tagOf_lineAddr (h : c.ok = true) (l : Level) (a : Word) : c.tagOf l (c.lineAddr a) = c.tagOf l a :=
  ((c.lineAddr_eq_iff h l _ _).mp (c.lineAddr_lineAddr a)).2

/-- The parts of a composed address are what it was composed of (R132). -/
theorem Config.parts_compose (h : c.ok = true) {l : Level} {tag : Word} {i k : Nat} (htag : tag.toNat < 2 ^ c.tagBits l)
    (hi : i < c.numSets l) (hk : k < c.lineSize) :
    c.indexOf l (c.compose l tag i k) = i ∧ c.tagOf l (c.compose l tag i k) = tag ∧
      c.offsetOf (c.compose l tag i k) = k := by
  have hpos := c.lineSize_pos h
  have hdiv : (c.compose l tag i k).toNat / c.lineSize = c.numSets l * tag.toNat + i := by
    rw [c.toNat_compose h htag hi hk, Nat.mul_add_div hpos, Nat.div_eq_of_lt hk, Nat.add_zero]
  rw [BitVec.toNat_eq, c.indexOf_eq h, c.toNat_tagOf h, hdiv, c.offsetOf_eq h, c.toNat_compose h htag hi hk,
    Nat.mul_add_mod, Nat.mul_add_mod, Nat.mul_add_div (c.numSets_pos h l), Nat.mod_eq_of_lt hi, Nat.mod_eq_of_lt hk,
    Nat.div_eq_of_lt hi]
  exact ⟨rfl, rfl, rfl⟩

/-- An address lies in a composed line where it has the line's index and tag. -/
theorem Config.lineAddr_eq_compose_iff (h : c.ok = true) {l : Level} {tag : Word} {i : Nat}
    (htag : tag.toNat < 2 ^ c.tagBits l) (hi : i < c.numSets l) (x : Word) :
    c.lineAddr x = c.compose l tag i 0 ↔ c.indexOf l x = i ∧ c.tagOf l x = tag := by
  obtain ⟨hindex, hparttag, hoffset⟩ := c.parts_compose h htag hi (c.lineSize_pos h)
  have hself : c.lineAddr (c.compose l tag i 0) = c.compose l tag i 0 := by
    have := c.lineAddr_add_offset (c.compose l tag i 0)
    exact BitVec.eq_of_toNat_eq (by omega)
  rw [← hself, c.lineAddr_eq_iff h l, hindex, hparttag]

/-! ## Bytes inside one line (R133) -/

/-- An address some bytes on, inside the line (R133). -/
theorem Config.offsetOf_add (h : c.ok = true) {a : Word} {k : Nat} (hk : c.offsetOf a + k < c.lineSize) :
    c.lineAddr (a + BitVec.ofNat 64 k) = c.lineAddr a ∧ c.offsetOf (a + BitVec.ofNat 64 k) = c.offsetOf a + k := by
  have hlt := c.lineSize_lt h
  have hline := c.toNat_lineAddr h a
  have hsum := c.lineAddr_add_offset a
  have hdvd : c.lineSize ∣ 2 ^ 64 := by
    have hbits := c.bits_le h .l1d
    exact c.lineSize_eq h ▸ Nat.pow_dvd_pow 2 (by omega)
  have hend : c.lineSize * (a.toNat / c.lineSize) + c.lineSize ≤ 2 ^ 64 := by
    obtain ⟨n, hn⟩ := hdvd
    have : a.toNat / c.lineSize < n := Nat.div_lt_of_lt_mul (hn ▸ a.isLt)
    rw [hn, ← Nat.mul_succ]
    exact Nat.mul_le_mul_left _ this
  have hnat : (a + BitVec.ofNat 64 k).toNat = c.lineSize * (a.toNat / c.lineSize) + (c.offsetOf a + k) := by
    rw [BitVec.toNat_add, BitVec.toNat_ofNat, Nat.add_mod_mod, Nat.mod_eq_of_lt (by omega)]
    omega
  rw [c.lineAddr_eq_iff_div h, c.offsetOf_eq h (a + _), hnat, Nat.mul_add_div (c.lineSize_pos h), Nat.mul_add_mod,
    Nat.div_eq_of_lt hk, Nat.mod_eq_of_lt hk]
  exact ⟨rfl, rfl⟩

/-- The bytes from an address on that lie inside its line, by their offsets. -/
theorem Config.sub_lt_iff (h : c.ok = true) {a : Word} {n : Nat} (hn : c.offsetOf a + n ≤ c.lineSize) (x : Word) :
    (x - a).toNat < n ↔ c.lineAddr x = c.lineAddr a ∧ c.offsetOf a ≤ c.offsetOf x ∧ c.offsetOf x < c.offsetOf a + n := by
  have hback : x = a + BitVec.ofNat 64 (x - a).toNat := by rw [BitVec.ofNat_toNat, BitVec.setWidth_eq, add_sub_cancel]
  refine ⟨fun hlt => ?_, fun ⟨hline, hle, hlt⟩ => ?_⟩
  · obtain ⟨hline, hoffset⟩ := c.offsetOf_add h (a := a) (k := (x - a).toNat) (by omega)
    rw [← hback] at hline hoffset
    exact ⟨hline, by omega, by omega⟩
  · have hx := c.lineAddr_add_offset x
    have ha := c.lineAddr_add_offset a
    rw [hline] at hx
    rw [BitVec.toNat_sub_of_le (BitVec.le_def.mpr (by omega))]
    omega

theorem Config.toNat_sub (c : Config) {a x : Word} (hline : c.lineAddr x = c.lineAddr a)
    (hle : c.offsetOf a ≤ c.offsetOf x) : (x - a).toNat = c.offsetOf x - c.offsetOf a := by
  have hx := c.lineAddr_add_offset x
  have ha := c.lineAddr_add_offset a
  rw [hline] at hx
  rw [BitVec.toNat_sub_of_le (BitVec.le_def.mpr (by omega))]
  omega

/-! ## The chain of a level (R27) -/

theorem Level.not_mem_below (l : Level) : l ∉ l.below := by cases l <;> decide

theorem Level.chain_eq (l : Level) : l.chain = l :: l.below := by cases l <;> rfl

end Sys2Proof
end

section
/-! PROOFS. Memory (40_cache_ops.md): the lines, counters and copies of a hierarchy, and how they read after the parts of an
access (R135 to R146). -/

namespace Sys2Proof.Machine

/-! ## Lines -/

/-- The line read out of a way after a line is put (R23). -/
theorem MemSys.line_putLine {m : MemSys} {l : Level} {i w : Nat} (hi : i < (m.level l).sets.length)
    (hw : w < (m.setAt l i).ways.length) (ln : CacheLine) (l' : Level) (j u : Nat) :
    (m.putLine l i w ln).line l' j u = if l' = l ∧ j = i ∧ u = w then ln else m.line l' j u := by
  by_cases hl : l' = l
  · subst hl
    by_cases hj : j = i
    · subst hj
      rw [MemSys.line, MemSys.putLine_setAt _ _ _ hi]
      by_cases hu : u = w
      · subst hu
        simp [CacheSet.way, hw]
      · simp [CacheSet.way, MemSys.line, hu, List.getElem?_set_ne (Ne.symm hu)]
    · rw [MemSys.line, MemSys.putLine, MemSys.putSet_setAt_other _ _ _ hj]
      simp [hj, MemSys.line]
  · rw [MemSys.line, MemSys.putLine, MemSys.putSet_setAt_level _ _ _ _ hl]
    simp [hl, MemSys.line]

/-- Putting a line touches no set's counter. -/
@[simp] theorem MemSys.putLine_accessCounter (m : MemSys) (l l' : Level) (i j w : Nat) (ln : CacheLine) :
    ((m.putLine l i w ln).setAt l' j).accessCounter = (m.setAt l' j).accessCounter := by
  by_cases hl : l' = l
  · subst hl
    by_cases hj : j = i
    · subst hj
      by_cases hlt : j < (m.level l').sets.length
      · rw [MemSys.putLine_setAt _ _ _ hlt]
      · rw [MemSys.putLine, MemSys.putSet, List.set_eq_of_length_le (Nat.le_of_not_lt hlt)]
        simp [MemSys.setAt]
    · rw [MemSys.putLine, MemSys.putSet_setAt_other _ _ _ hj]
  · rw [MemSys.putLine, MemSys.putSet_setAt_level _ _ _ _ hl]

theorem MemSys.putLine_level_ne (m : MemSys) {l l' : Level} (h : l' ≠ l) (i w : Nat) (ln : CacheLine) :
    (m.putLine l i w ln).level l' = m.level l' := m.setLevel_level_ne _ h

/-- A way with a valid line is one of the set's ways. -/
theorem MemSys.way_lt_of_valid {m : MemSys} {l : Level} {i w : Nat} (h : (m.line l i w).valid = true) :
    w < (m.setAt l i).ways.length := CacheSet.way_lt_of_valid h

/-- A set with a valid line is one of the level's sets. -/
theorem MemSys.set_lt_of_valid {m : MemSys} {l : Level} {i w : Nat} (h : (m.line l i w).valid = true) :
    i < (m.level l).sets.length := by
  by_contra hge
  rw [MemSys.line, MemSys.setAt, CacheLevel.setAt, List.getD_eq_default _ _ (Nat.le_of_not_lt hge)] at h
  cases h

theorem MemSys.line_good {c : Config} {m : MemSys} (h : m.good c) {l : Level} {i w : Nat}
    (hvalid : (m.line l i w).valid = true) : (m.line l i w).good c l :=
  CacheSet.good_line (MemSys.setAt_good h (MemSys.sets_length h l ▸ MemSys.set_lt_of_valid hvalid))
    (MemSys.way_lt_of_valid hvalid)

theorem MemSys.ways_length {c : Config} {m : MemSys} (h : m.good c) {l : Level} {i : Nat} (hi : i < c.numSets l) :
    (m.setAt l i).ways.length = c.assoc.get l := CacheSet.good_length (MemSys.setAt_good h hi)

/-- Two valid lines of a set with one tag are one line (R28). -/
theorem MemSys.way_unique {c : Config} {m : MemSys} (h : m.good c) {l : Level} {i u w : Nat} {tag : Word}
    (hu : (m.line l i u).hasTag tag = true) (hw : (m.line l i w).hasTag tag = true) : u = w := by
  simp only [CacheLine.hasTag, Bool.and_eq_true, beq_iff_eq] at hu hw
  obtain ⟨huvalid, hutag⟩ := hu
  obtain ⟨hwvalid, hwtag⟩ := hw
  have hi := MemSys.sets_length h l ▸ MemSys.set_lt_of_valid huvalid
  obtain ⟨-, hunique, -, -⟩ := (CacheSet.good_iff c l _).mp (MemSys.setAt_good h hi)
  have hat : ∀ {v}, (m.line l i v).valid = true → (m.setAt l i).ways[v]? = some (m.line l i v) := fun hv => by
    simp [MemSys.line, CacheSet.way, MemSys.way_lt_of_valid hv]
  by_contra hne
  exact freeBut_of_distinctBy (f := CacheLine.tag) hunique (hat hwvalid) hwvalid u _ (hat huvalid) hne huvalid
    (hutag.trans hwtag.symm)

/-- Traffic that keeps a level leaves or drops each of its lines (R145). -/
theorem MemSys.keptAt.line {l : Level} {m m' : MemSys} (h : m.keptAt l m') (i w : Nat) :
    (m.line l i w).keptOrDropped (m'.line l i w) := by
  obtain ⟨-, hways⟩ := h i
  have hlength := hways.length_eq
  by_cases hw : w < (m.setAt l i).ways.length
  · have hw' : w < (m'.setAt l i).ways.length := hlength ▸ hw
    have := (List.forall₂_iff_get.mp hways).2 w hw hw'
    simpa [MemSys.line, CacheSet.way, hw, hw'] using this
  · have hw' : ¬ w < (m'.setAt l i).ways.length := hlength ▸ hw
    rw [MemSys.line, MemSys.line, CacheSet.way, CacheSet.way, List.getD_eq_default _ _ (Nat.le_of_not_lt hw),
      List.getD_eq_default _ _ (Nat.le_of_not_lt hw')]
    exact .inl rfl

/-- A kept line that is still valid is as it was. -/
theorem CacheLine.keptOrDropped.eq_of_valid {ln ln' : CacheLine} (h : ln.keptOrDropped ln') (hv : ln'.valid = true) :
    ln' = ln := by
  rcases h with heq | ⟨-, -, rfl⟩
  · exact heq
  · cases hv

/-- A kept line that was not valid is as it was. -/
theorem CacheLine.keptOrDropped.eq_of_invalid {ln ln' : CacheLine} (h : ln.keptOrDropped ln') (hv : ln.valid = false) :
    ln' = ln := by
  rcases h with heq | ⟨hvalid, -, -⟩
  · exact heq
  · rw [hv] at hvalid
    cases hvalid

theorem CacheLine.good_clean_of_shared {c : Config} {l : Level} {ln : CacheLine} (h : ln.good c l)
    (hs : ln.state = .shared) : ln.dirty = false := by
  obtain ⟨⟨-, hdirty⟩, -⟩ := h
  simpa [hs] using hdirty

/-! ## Copies (R135) -/

theorem MemSys.copyAt_hasTag {c : Config} {m : MemSys} {l : Level} {a : Word} {ln : CacheLine}
    (h : m.copyAt c l a = some ln) : ln.hasTag (c.tagOf l a) = true := by
  have htag := List.find?_some h
  exact htag

/-- A copy of an address is the line of a way of its set that has its tag. -/
theorem MemSys.copyAt_eq_some_iff {c : Config} {m : MemSys} (h : m.good c) {l : Level} {a : Word} {ln : CacheLine} :
    m.copyAt c l a = some ln ↔ ∃ w, m.line l (c.indexOf l a) w = ln ∧ ln.hasTag (c.tagOf l a) = true := by
  have hway : ∀ {w}, (m.line l (c.indexOf l a) w).hasTag (c.tagOf l a) = true →
      m.line l (c.indexOf l a) w ∈ (m.setAt l (c.indexOf l a)).ways := fun hw =>
    CacheSet.way_mem (MemSys.way_lt_of_valid (Bool.and_eq_true_iff.mp hw).1)
  constructor
  · intro hcopy
    obtain ⟨w, hw, rfl⟩ := List.mem_iff_getElem.mp (List.mem_of_find?_eq_some hcopy)
    exact ⟨w, by simp [MemSys.line, CacheSet.way, hw], MemSys.copyAt_hasTag hcopy⟩
  · rintro ⟨w, rfl, hw⟩
    cases hcopy : m.copyAt c l a with
    | none => exact absurd hw (List.find?_eq_none.mp hcopy _ (hway hw))
    | some ln' =>
      obtain ⟨u, hu, rfl⟩ := List.mem_iff_getElem.mp (List.mem_of_find?_eq_some hcopy)
      have hline : m.line l (c.indexOf l a) u = (m.setAt l (c.indexOf l a)).ways[u] := by
        simp [MemSys.line, CacheSet.way, hu]
      have htag : (m.line l (c.indexOf l a) u).hasTag (c.tagOf l a) = true := hline ▸ MemSys.copyAt_hasTag hcopy
      rw [← hline, MemSys.way_unique h htag hw]

theorem MemSys.copyAt_eq_none_iff {c : Config} {m : MemSys} (h : m.good c) {l : Level} {a : Word} :
    m.copyAt c l a = none ↔ ∀ w, (m.line l (c.indexOf l a) w).hasTag (c.tagOf l a) = false := by
  rw [Option.eq_none_iff_forall_ne_some]
  refine ⟨fun hnone w => ?_, fun hall ln hcopy => ?_⟩
  · by_contra htag
    exact hnone _ ((MemSys.copyAt_eq_some_iff h).mpr ⟨w, rfl, by simpa using htag⟩)
  · obtain ⟨w, rfl, htag⟩ := (MemSys.copyAt_eq_some_iff h).mp hcopy
    rw [hall w] at htag
    cases htag

/-- The copy of an address whose tag a way of its set has. -/
theorem MemSys.copyAt_of_hasTag {c : Config} {m : MemSys} (h : m.good c) {l : Level} {a : Word} {w : Nat}
    (htag : (m.line l (c.indexOf l a) w).hasTag (c.tagOf l a) = true) :
    m.copyAt c l a = some (m.line l (c.indexOf l a) w) := (MemSys.copyAt_eq_some_iff h).mpr ⟨w, rfl, htag⟩

/-- Copies are read off the ways of the sets alone. -/
theorem MemSys.copyAt_congr {c : Config} {m m' : MemSys} {l : Level} {a : Word}
    (h : (m'.setAt l (c.indexOf l a)).ways = (m.setAt l (c.indexOf l a)).ways) : m'.copyAt c l a = m.copyAt c l a := by
  rw [MemSys.copyAt, h, MemSys.copyAt]

theorem MemSys.copyAt_of_level_eq {c : Config} {m m' : MemSys} {l : Level} (h : m'.level l = m.level l) (a : Word) :
    m'.copyAt c l a = m.copyAt c l a := MemSys.copyAt_congr (by rw [MemSys.setAt, h, MemSys.setAt])

/-- All addresses of a line have one copy at a level. -/
theorem MemSys.copyAt_lineAddr {c : Config} (hok : c.ok = true) (m : MemSys) (l : Level) {x y : Word}
    (h : c.lineAddr x = c.lineAddr y) : m.copyAt c l x = m.copyAt c l y := by
  obtain ⟨hindex, htag⟩ := (c.lineAddr_eq_iff hok l x y).mp h
  rw [MemSys.copyAt, MemSys.copyAt, hindex, htag]

/-- The copy of an address once a line is put: that line, none where the line put away was the copy, else as before. -/
theorem MemSys.copyAt_putLine {c : Config} {m : MemSys} (h : m.good c) {l : Level} {i w : Nat} {ln : CacheLine}
    (h' : (m.putLine l i w ln).good c) (hi : i < c.numSets l) (hw : w < c.assoc.get l) (x : Word) :
    (m.putLine l i w ln).copyAt c l x =
      if c.indexOf l x = i ∧ ln.hasTag (c.tagOf l x) = true then some ln
      else if c.indexOf l x = i ∧ (m.line l i w).hasTag (c.tagOf l x) = true then none
      else m.copyAt c l x := by
  have hline := MemSys.line_putLine (MemSys.sets_length h l ▸ hi) (MemSys.ways_length h hi ▸ hw) ln l
  split
  · rename_i hnew
    obtain ⟨rfl, htag⟩ := hnew
    exact (MemSys.copyAt_eq_some_iff h').mpr ⟨w, by simp [hline], htag⟩
  · rename_i hnew
    split
    · rename_i hold
      obtain ⟨rfl, htag⟩ := hold
      refine (MemSys.copyAt_eq_none_iff h').mpr fun u => ?_
      rw [hline]
      by_cases hu : u = w
      · simpa [hu] using hnew
      · rw [if_neg (fun hand => hu hand.2.2)]
        by_contra hutag
        exact hu (MemSys.way_unique h (by simpa using hutag) htag)
    · rename_i hold
      by_cases hindex : c.indexOf l x = i
      · refine Option.ext fun ln' => ?_
        rw [MemSys.copyAt_eq_some_iff h, MemSys.copyAt_eq_some_iff h']
        refine exists_congr fun u => and_congr_left fun htag => ?_
        rw [hline]
        by_cases hu : u = w
        · subst hu
          rw [if_pos ⟨rfl, hindex, rfl⟩]
          subst hindex
          exact ⟨fun heq => absurd ⟨rfl, heq ▸ htag⟩ hnew, fun heq => absurd ⟨rfl, heq ▸ htag⟩ hold⟩
        · rw [if_neg (fun hand => hu hand.2.2)]
      · exact MemSys.copyAt_congr (congrArg _ (MemSys.putSet_setAt_other _ _ _ hindex))

/-- An address hits where a level has a copy of it (R135). -/
theorem MemSys.lookup_eq_none_iff (c : Config) (m : MemSys) (l : Level) (a : Word) :
    (m.setAt l (c.indexOf l a)).lookup (c.tagOf l a) = none ↔ m.copyAt c l a = none := by
  rw [CacheSet.lookup, List.findIdx?_eq_none_iff, MemSys.copyAt, List.find?_eq_none]
  simp only [Bool.not_eq_true]

theorem MemSys.lookup_eq_some_iff {c : Config} {m : MemSys} (h : m.good c) {l : Level} {a : Word} {w : Nat} :
    (m.setAt l (c.indexOf l a)).lookup (c.tagOf l a) = some w ↔
      (m.line l (c.indexOf l a) w).hasTag (c.tagOf l a) = true := by
  refine ⟨fun hfound => (CacheSet.lookup_eq_some hfound).2, fun htag => ?_⟩
  cases hfound : (m.setAt l (c.indexOf l a)).lookup (c.tagOf l a) with
  | none =>
    rw [MemSys.lookup_eq_none_iff, MemSys.copyAt_of_hasTag h htag] at hfound
    cases hfound
  | some u => rw [MemSys.way_unique h (CacheSet.lookup_eq_some hfound).2 htag]

/-- The hit of the statements is a way that has the address's tag. -/
theorem MemSys.hitsIn_iff {c : Config} (hok : c.ok = true) {m : MemSys} (h : m.good c) {l : Level} {a : Word} {w : Nat} :
    m.hitsIn c l a w ↔ (m.line l (c.indexOf l a) w).hasTag (c.tagOf l a) = true := by
  rw [MemSys.hitsIn, CacheLine.hasTag, Bool.and_eq_true, beq_iff_eq]
  refine ⟨fun ⟨_, hhit⟩ => hhit, fun hhit => ⟨?_, hhit⟩⟩
  exact MemSys.ways_length h (c.indexOf_lt hok l a) ▸ MemSys.way_lt_of_valid hhit.1

/-- No way hits exactly where there is no copy. -/
theorem MemSys.forall_not_hitsIn_iff {c : Config} (hok : c.ok = true) {m : MemSys} (h : m.good c) {l : Level} {a : Word} :
    (∀ w, ¬ m.hitsIn c l a w) ↔ m.copyAt c l a = none := by
  simp only [MemSys.hitsIn_iff hok h, MemSys.copyAt_eq_none_iff h, Bool.not_eq_true]

/-! ## Clean copies dropped -/

/-- Of the copies of an address at a level no more than a clean one is gone. -/
def MemSys.thinnedAt (c : Config) (l : Level) (m m' : MemSys) : Prop :=
  ∀ a, m'.copyAt c l a = m.copyAt c l a ∨
    m'.copyAt c l a = none ∧ ∃ ln, m.copyAt c l a = some ln ∧ ln.dirty = false

theorem MemSys.thinnedAt_of_level_eq {c : Config} {l : Level} {m m' : MemSys} (h : m'.level l = m.level l) :
    m.thinnedAt c l m' := fun a => .inl (MemSys.copyAt_of_level_eq h a)

/-- Traffic that keeps a level drops Shared copies at most, and those are clean (R22, R145). -/
theorem MemSys.keptAt.thinned {c : Config} {l : Level} {m m' : MemSys} (hk : m.keptAt l m') (h : m.good c) (h' : m'.good c) :
    m.thinnedAt c l m' := by
  intro a
  cases hcopy : m'.copyAt c l a with
  | some ln' =>
    obtain ⟨w, rfl, htag⟩ := (MemSys.copyAt_eq_some_iff h').mp hcopy
    have heq := (hk.line (c.indexOf l a) w).eq_of_valid (Bool.and_eq_true_iff.mp htag).1
    rw [heq] at htag ⊢
    exact .inl (MemSys.copyAt_of_hasTag h htag).symm
  | none =>
    cases hold : m.copyAt c l a with
    | none => exact .inl rfl
    | some ln =>
      obtain ⟨w, rfl, htag⟩ := (MemSys.copyAt_eq_some_iff h).mp hold
      refine .inr ⟨rfl, _, rfl, ?_⟩
      rcases hk.line (c.indexOf l a) w with heq | ⟨hvalid, hshared, -⟩
      · have := (MemSys.copyAt_eq_none_iff h').mp hcopy w
        rw [heq, htag] at this
        cases this
      · exact CacheLine.good_clean_of_shared (MemSys.line_good h hvalid) hshared

end Sys2Proof.Machine
end

section
/-! PROOFS. Memory (40_cache_ops.md): an access and the taking out of a way, in the terms of the statements, and what they
leave unchanged (R135 to R146). -/

namespace Sys2Proof.Machine

/-! ## Counters of a level (R26) -/

/-- The four counters of a level are as they were. -/
def MemSys.sameCounters (l : Level) (m m' : MemSys) : Prop :=
  (m'.level l).hits = (m.level l).hits ∧ (m'.level l).misses = (m.level l).misses ∧
  (m'.level l).evictions = (m.level l).evictions ∧ (m'.level l).writebacks = (m.level l).writebacks

theorem MemSys.sameCounters_of_level_eq {l : Level} {m m' : MemSys} (h : m'.level l = m.level l) : m.sameCounters l m' := by
  simp [MemSys.sameCounters, h]

theorem MemSys.sameCounters.trans {l : Level} {m m' m'' : MemSys} (h : m.sameCounters l m') (h' : m'.sameCounters l m'') :
    m.sameCounters l m'' := by
  obtain ⟨h1, h2, h3, h4⟩ := h
  obtain ⟨h1', h2', h3', h4'⟩ := h'
  exact ⟨h1'.trans h1, h2'.trans h2, h3'.trans h3, h4'.trans h4⟩

/-- Replacing a set counts nothing, at any level. -/
theorem MemSys.sameCounters_putSet (m : MemSys) (l l' : Level) (i : Nat) (st : CacheSet) :
    m.sameCounters l (m.putSet l' i st) := by
  by_cases hl : l = l'
  · subst hl
    simp [MemSys.sameCounters, MemSys.putSet]
  · exact MemSys.sameCounters_of_level_eq (m.setLevel_level_ne _ hl)

theorem MemSys.sameCounters_putLine (m : MemSys) (l l' : Level) (i w : Nat) (ln : CacheLine) :
    m.sameCounters l (m.putLine l' i w ln) := m.sameCounters_putSet l l' i _

theorem coherencyInvalidate_sameCounters (c : Config) (l l' : Level) (la : Word) (m : MemSys) :
    m.sameCounters l (coherencyInvalidate c l' la m) :=
  List.foldlRecOn _ _ (MemSys.sameCounters_of_level_eq rfl) fun m' h _ _ =>
    h.trans (m'.sameCounters_putSet l _ _ _)

/-- A way down that counts nothing at a level. -/
def Lower.KeepsCounters (lower : Lower) (l : Level) : Prop := ∀ acc (m : MemSys), m.sameCounters l (lower acc m).2

theorem retire_sameCounters {c : Config} {lower : Lower} {l l' : Level} (hlow : lower.KeepsCounters l) (hl : l ≠ l')
    (i w : Nat) (m : MemSys) : m.sameCounters l (retire c lower l' i w m) := by
  have hput := m.sameCounters_putLine l l' i w (m.line l' i w).invalidated
  unfold retire
  simp only
  split
  · exact (hput.trans (MemSys.sameCounters_of_level_eq (MemSys.setLevel_level_ne _ _ hl))).trans (hlow _ _)
  · exact hput

theorem evict_sameCounters {c : Config} {lower : Lower} {l l' : Level} (hlow : lower.KeepsCounters l) (hl : l ≠ l')
    (i w : Nat) (m : MemSys) : m.sameCounters l (evict c lower l' i w m) := by
  unfold evict
  split
  · exact (MemSys.sameCounters_of_level_eq (m.setLevel_level_ne _ hl)).trans (retire_sameCounters hlow hl i w _)
  · exact MemSys.sameCounters_of_level_eq rfl

/-- The choice of a victim changes neither a level nor main memory. -/
theorem victim_frame (c : Config) (l : Level) (i : Nat) (m : MemSys) :
    (victim c l i m).2.caches = m.caches ∧ (victim c l i m).2.mem = m.mem := by
  unfold victim
  repeat' split
  all_goals exact ⟨rfl, rfl⟩

@[simp] theorem victim_level (c : Config) (l l' : Level) (i : Nat) (m : MemSys) :
    (victim c l i m).2.level l' = m.level l' := by
  rw [MemSys.level, (victim_frame c l i m).1, MemSys.level]

@[simp] theorem victim_mem (c : Config) (l : Level) (i : Nat) (m : MemSys) : (victim c l i m).2.mem = m.mem :=
  (victim_frame c l i m).2

theorem miss_sameCounters {c : Config} {lower : Lower} {l l' : Level} (hlow : lower.KeepsCounters l) (hl : l ≠ l')
    (a : Word) (m : MemSys) : m.sameCounters l (miss c lower l' a m).2 := by
  have hcounted : m.sameCounters l (m.countMiss l') := MemSys.sameCounters_of_level_eq (m.setLevel_level_ne _ hl)
  have hpulled := hcounted.trans (hlow (.read (c.lineAddr a) c.lineSize) (m.countMiss l'))
  have hchosen := hpulled.trans (MemSys.sameCounters_of_level_eq (victim_level c l' l (c.indexOf l' a) _))
  exact (hchosen.trans (evict_sameCounters hlow hl _ _ _)).trans (MemSys.sameCounters_putLine _ l _ _ _ _)

theorem locate_sameCounters {c : Config} {lower : Lower} {l l' : Level} (hlow : lower.KeepsCounters l) (hl : l ≠ l')
    (a : Word) (m : MemSys) : m.sameCounters l (locate c lower l' a m).2 := by
  have hcounted := m.sameCounters_putSet l l' (c.indexOf l' a)
  cases hfound : (m.setAt l' (c.indexOf l' a)).lookup (c.tagOf l' a) with
  | some w =>
    rw [locate_hit c lower l' a m w hfound]
    refine MemSys.sameCounters.trans ?_ (MemSys.sameCounters_putLine _ _ _ _ _ _)
    exact (hcounted _).trans (MemSys.sameCounters_of_level_eq (MemSys.setLevel_level_ne _ _ hl))
  | none =>
    rw [locate_miss c lower l' a m hfound]
    exact (hcounted _).trans (miss_sameCounters hlow hl a _)

/-- An access down a chain counts nothing at a level off the chain (R138). -/
theorem access_keepsCounters (c : Config) (l : Level) : ∀ {chain : List Level}, l ∉ chain →
    Lower.KeepsCounters (access c chain) l
  | [], _, .read _ _, _ | [], _, .write _ _, _ => MemSys.sameCounters_of_level_eq rfl
  | l' :: rest, h, acc, m => by
    obtain ⟨hl, hrest⟩ := not_or.mp (mt List.mem_cons.mpr h)
    have hfound := locate_sameCounters (c := c) (access_keepsCounters c l hrest) hl acc.addr m
    cases acc with
    | read a n => exact hfound
    | write a bs =>
      exact (hfound.trans (MemSys.sameCounters_putLine _ _ _ _ _ _)).trans (coherencyInvalidate_sameCounters c l l' _ _)

/-- The levels below a level leave its sets as they were, but for Shared lines dropped (R145). -/
theorem access_below_keeps (c : Config) (l : Level) : Lower.Keeps (access c l.below) l :=
  access_keeps c l l.not_mem_below

theorem access_below_keepsCounters (c : Config) (l : Level) : Lower.KeepsCounters (access c l.below) l :=
  access_keepsCounters c l l.not_mem_below

/-! ## The coherency rule at the other levels (R145) -/

theorem coherencyAt_level_ne (c : Config) (la : Word) (m : MemSys) {l l' : Level} (h : l' ≠ l) :
    (coherencyAt c la m l).level l' = m.level l' := m.setLevel_level_ne _ h

@[simp] theorem coherencyAt_mem (c : Config) (la : Word) (m : MemSys) (l : Level) :
    (coherencyAt c la m l).mem = m.mem ∧ (coherencyAt c la m l).victims = m.victims := ⟨rfl, rfl⟩

@[simp] theorem coherencyInvalidate_mem (c : Config) (l : Level) (la : Word) (m : MemSys) :
    (coherencyInvalidate c l la m).mem = m.mem ∧ (coherencyInvalidate c l la m).victims = m.victims :=
  List.foldlRecOn (motive := fun x : MemSys => x.mem = m.mem ∧ x.victims = m.victims) _ _ ⟨rfl, rfl⟩ fun _ h _ _ => h

theorem foldl_coherencyAt_level (c : Config) (la : Word) (l : Level) : ∀ (ls : List Level) (m : MemSys), l ∉ ls →
    (ls.foldl (coherencyAt c la) m).level l = m.level l
  | [], _, _ => rfl
  | l' :: ls, m, h => by
    obtain ⟨hl, hls⟩ := not_or.mp (mt List.mem_cons.mpr h)
    exact (foldl_coherencyAt_level c la l ls _ hls).trans (coherencyAt_level_ne c la m hl)

/-- The rule leaves the level that wrote. -/
theorem coherencyInvalidate_level_same (c : Config) (l : Level) (la : Word) (m : MemSys) :
    (coherencyInvalidate c l la m).level l = m.level l := foldl_coherencyAt_level c la l _ m (by cases l <;> decide)

/-- At another level the rule acts once, on the set of the line. -/
theorem coherencyInvalidate_level_ne (c : Config) {l l' : Level} (la : Word) (m : MemSys) (h : l' ≠ l) :
    (coherencyInvalidate c l la m).level l' = (coherencyAt c la m l').level l' := by
  have hsplit : ∃ before after : List Level, Level.all.filter (· != l) = before ++ l' :: after ∧
      l' ∉ before ∧ l' ∉ after := by
    refine (List.append_of_mem (a := l') ?_).imp fun before => Exists.imp fun after heq => ⟨heq, ?_⟩
    · exact List.mem_filter.mpr ⟨by cases l' <;> decide, by simpa using h⟩
    · have hnodup : (before ++ l' :: after).Nodup := heq ▸ (by cases l <;> decide)
      rw [List.nodup_append, List.nodup_cons] at hnodup
      obtain ⟨-, ⟨hafter, -⟩, hdisjoint⟩ := hnodup
      exact ⟨fun hmem => hdisjoint _ hmem _ List.mem_cons_self rfl, hafter⟩
  obtain ⟨before, after, heq, hbefore, hafter⟩ := hsplit
  rw [coherencyInvalidate, heq, List.foldl_append, List.foldl_cons, foldl_coherencyAt_level c la l' after _ hafter]
  have hlevel := foldl_coherencyAt_level c la l' before m hbefore
  have hset : ∀ j, (before.foldl (coherencyAt c la) m).setAt l' j = m.setAt l' j := fun j => by
    rw [MemSys.setAt, hlevel, MemSys.setAt]
  rw [coherencyAt, coherencyAt, MemSys.putSet, MemSys.putSet, MemSys.setLevel_level_same, MemSys.setLevel_level_same,
    hlevel, hset]

/-- The coherency rule on a line, as the statements write it (R145). -/
theorem CacheLine.afterWriteElsewhere_eq (c : Config) (l : Level) (a : Word) (i : Nat) (ln : CacheLine) :
    ln.afterWriteElsewhere c l a i = if i = c.indexOf l a then ln.coherent (c.tagOf l a) else ln := by
  by_cases hi : i = c.indexOf l a <;> simp [afterWriteElsewhere, coherent, hasTag, hi, and_assoc]

theorem coherencyAt_line {c : Config} (hok : c.ok = true) (a : Word) (m : MemSys) (l : Level) (j u : Nat) :
    (coherencyAt c (c.lineAddr a) m l).line l j u = (m.line l j u).afterWriteElsewhere c l a j := by
  rw [CacheLine.afterWriteElsewhere_eq, coherencyAt, c.indexOf_lineAddr hok, c.tagOf_lineAddr hok]
  have hdefault : CacheLine.coherent (c.tagOf l a) default = default := rfl
  split
  · rename_i hj
    subst hj
    by_cases hlt : c.indexOf l a < (m.level l).sets.length
    · rw [MemSys.line, MemSys.putSet_setAt_same _ _ _ _ hlt]
      by_cases hu : u < (m.setAt l (c.indexOf l a)).ways.length
      · simp [MemSys.line, CacheSet.way, hu]
      · simp [MemSys.line, CacheSet.way, hu, hdefault]
    · rw [MemSys.putSet, List.set_eq_of_length_le (Nat.le_of_not_lt hlt)]
      have hline : m.line l (c.indexOf l a) u = default := by
        rw [MemSys.line, MemSys.setAt, CacheLevel.setAt, List.getD_eq_default _ _ (Nat.le_of_not_lt hlt)]
        rfl
      have hsame : (m.setLevel l (m.level l)).line l (c.indexOf l a) u = m.line l (c.indexOf l a) u := by
        simp [MemSys.line, MemSys.setAt]
      rw [hsame, hline, hdefault]
  · rename_i hj
    rw [MemSys.line, MemSys.putSet_setAt_other _ _ _ hj, MemSys.line]

/-! ## A hit and a counted miss (R137, R139, R142) -/

theorem MemSys.afterMiss_eq (m : MemSys) (l : Level) (i : Nat) : m.afterMiss l i = (m.bumpedAt l i).countMiss l := by
  simp [MemSys.afterMiss, MemSys.bumpedAt, MemSys.countMiss, MemSys.putSet, MemSys.setLevel, CacheSet.bumped, MemSys.level]

theorem MemSys.afterMiss_good {c : Config} {m : MemSys} (h : m.good c) {l : Level} {i : Nat} (hi : i < c.numSets l) :
    (m.afterMiss l i).good c := by
  rw [MemSys.afterMiss_eq]
  exact MemSys.setLevel_good (MemSys.bumpedAt_good h hi) l rfl

theorem MemSys.bumpedAt_setAt_eq {c : Config} {m : MemSys} (h : m.good c) {l : Level} {i : Nat} (hi : i < c.numSets l)
    (l' : Level) (j : Nat) :
    (m.bumpedAt l i).setAt l' j = if l' = l ∧ j = i then (m.setAt l i).bumped else m.setAt l' j := by
  by_cases hl : l' = l
  · subst hl
    by_cases hj : j = i
    · subst hj
      simp [MemSys.bumpedAt_setAt h hi]
    · simp [MemSys.bumpedAt, MemSys.putSet_setAt_other _ _ _ hj, hj]
  · simp [MemSys.bumpedAt, MemSys.putSet_setAt_level _ _ _ _ hl, hl]

/-- One more access of a set counted changes no way. -/
theorem MemSys.bumpedAt_ways {c : Config} {m : MemSys} (h : m.good c) {l : Level} {i : Nat} (hi : i < c.numSets l)
    (l' : Level) (j : Nat) : ((m.bumpedAt l i).setAt l' j).ways = (m.setAt l' j).ways := by
  rw [MemSys.bumpedAt_setAt_eq h hi]
  split
  · rename_i hand
    obtain ⟨rfl, rfl⟩ := hand
    rfl
  · rfl

theorem MemSys.afterMiss_setAt {c : Config} {m : MemSys} (h : m.good c) {l : Level} {i : Nat} (hi : i < c.numSets l)
    (l' : Level) (j : Nat) :
    (m.afterMiss l i).setAt l' j = if l' = l ∧ j = i then (m.setAt l i).bumped else m.setAt l' j := by
  rw [MemSys.afterMiss_eq, MemSys.countMiss_setAt, MemSys.bumpedAt_setAt_eq h hi]

theorem MemSys.afterMiss_ways {c : Config} {m : MemSys} (h : m.good c) {l : Level} {i : Nat} (hi : i < c.numSets l)
    (l' : Level) (j : Nat) : ((m.afterMiss l i).setAt l' j).ways = (m.setAt l' j).ways := by
  rw [MemSys.afterMiss_eq, MemSys.countMiss_setAt, MemSys.bumpedAt_ways h hi]

theorem MemSys.afterMiss_line {c : Config} {m : MemSys} (h : m.good c) {l : Level} {i : Nat} (hi : i < c.numSets l)
    (l' : Level) (j u : Nat) : (m.afterMiss l i).line l' j u = m.line l' j u := by
  rw [MemSys.line, CacheSet.way, MemSys.afterMiss_ways h hi, MemSys.line, CacheSet.way]

theorem MemSys.afterMiss_copyAt {c : Config} {m : MemSys} (h : m.good c) {l : Level} {i : Nat} (hi : i < c.numSets l)
    (l' : Level) (a : Word) : (m.afterMiss l i).copyAt c l' a = m.copyAt c l' a :=
  MemSys.copyAt_congr (MemSys.afterMiss_ways h hi _ _)

/-- The hierarchy a hit restamps a line of (R137, R139). -/
def MemSys.hitCounted (m : MemSys) (l : Level) (i : Nat) : MemSys := (m.bumpedAt l i).countHit l

theorem MemSys.hitCounted_good {c : Config} {m : MemSys} (h : m.good c) {l : Level} {i : Nat} (hi : i < c.numSets l) :
    (m.hitCounted l i).good c := MemSys.setLevel_good (MemSys.bumpedAt_good h hi) l rfl

theorem MemSys.hitCounted_ways {c : Config} {m : MemSys} (h : m.good c) {l : Level} {i : Nat} (hi : i < c.numSets l)
    (l' : Level) (j : Nat) : ((m.hitCounted l i).setAt l' j).ways = (m.setAt l' j).ways := by
  rw [MemSys.hitCounted, MemSys.countHit_setAt, MemSys.bumpedAt_ways h hi]

theorem MemSys.hitCounted_line {c : Config} {m : MemSys} (h : m.good c) {l : Level} {i : Nat} (hi : i < c.numSets l)
    (l' : Level) (j u : Nat) : (m.hitCounted l i).line l' j u = m.line l' j u := by
  rw [MemSys.line, CacheSet.way, MemSys.hitCounted_ways h hi, MemSys.line, CacheSet.way]

theorem MemSys.afterHit_eq (m : MemSys) (l : Level) (i w : Nat) (ln : CacheLine) (hi : i < (m.level l).sets.length) :
    m.afterHit l i w ln = (m.hitCounted l i).putLine l i w { ln with lastAccess := (m.setAt l i).accessCounter + 1 } := by
  have hset : (m.hitCounted l i).setAt l i = (m.setAt l i).bumped := by
    rw [MemSys.hitCounted, MemSys.countHit_setAt, MemSys.bumpedAt, MemSys.putSet_setAt_same _ _ _ _ hi]
  rw [MemSys.putLine, hset]
  simp [MemSys.hitCounted, MemSys.afterHit, MemSys.bumpedAt, MemSys.countHit, MemSys.putSet, MemSys.setLevel,
    CacheSet.bumped, MemSys.level]

theorem MemSys.afterHit_line {c : Config} {m : MemSys} (h : m.good c) {l : Level} {i w : Nat} (hi : i < c.numSets l)
    (hw : w < c.assoc.get l) (ln : CacheLine) (l' : Level) (j u : Nat) :
    (m.afterHit l i w ln).line l' j u = if l' = l ∧ j = i ∧ u = w then
      { ln with lastAccess := (m.setAt l i).accessCounter + 1 } else m.line l' j u := by
  have hcounted := MemSys.hitCounted_good h hi
  rw [MemSys.afterHit_eq _ _ _ _ _ (MemSys.sets_length h l ▸ hi), MemSys.line_putLine (MemSys.sets_length hcounted l ▸ hi)
    (MemSys.ways_length hcounted hi ▸ hw), MemSys.hitCounted_line h hi]

/-- A hit's line replaced in its way is the hit with that line (R139). -/
theorem MemSys.putLine_afterHit {m : MemSys} {l : Level} {i w : Nat} (hi : i < (m.level l).sets.length) (ln ln' : CacheLine) :
    (m.afterHit l i w ln).putLine l i w { ln' with lastAccess := (m.setAt l i).accessCounter + 1 } = m.afterHit l i w ln' := by
  have hlt : i < (m.caches.get l).sets.length := hi
  simp [MemSys.afterHit, MemSys.putLine, MemSys.putSet, MemSys.setLevel, MemSys.level, MemSys.setAt, CacheLevel.setAt, hlt]

/-! ## A way taken out (R144, R146) -/

theorem MemSys.takenOut_invalid {c : Config} {l : Level} {i w : Nat} (n : Nat) {m : MemSys}
    (h : (m.line l i w).valid = false) : m.takenOut c l i w n = m := by simp [MemSys.takenOut, h]

theorem MemSys.takenOut_clean {c : Config} {l : Level} {i w : Nat} (n : Nat) {m : MemSys}
    (h : (m.line l i w).valid = true) (hd : (m.line l i w).dirty = false) : m.takenOut c l i w n = m.dropWay l i w n := by
  simp [MemSys.takenOut, h, hd]

theorem MemSys.takenOut_dirty {c : Config} {l : Level} {i w : Nat} (n : Nat) {m : MemSys}
    (h : (m.line l i w).valid = true) (hd : (m.line l i w).dirty = true) :
    m.takenOut c l i w n =
      (access c l.below (.write (c.compose l (m.line l i w).tag i 0) (m.line l i w).data) (m.dropWay l i w n)).2 := by
  simp [MemSys.takenOut, h, hd]

theorem MemSys.dropWay_sets (m : MemSys) (l : Level) (i w n : Nat) (l' : Level) :
    ((m.dropWay l i w n).level l').sets = ((m.putLine l i w (m.line l i w).invalidated).level l').sets := by
  by_cases hl : l' = l
  · subst hl
    simp only [MemSys.dropWay, MemSys.putLine, MemSys.putSet, MemSys.setLevel, MemSys.level, LevelMap.get_set_same]
    rfl
  · rw [MemSys.dropWay_level_ne _ _ _ _ hl, MemSys.putLine_level_ne _ hl]

theorem MemSys.dropWay_setAt (m : MemSys) (l : Level) (i w n : Nat) (l' : Level) (j : Nat) :
    (m.dropWay l i w n).setAt l' j = (m.putLine l i w (m.line l i w).invalidated).setAt l' j :=
  congrArg (List.getD · j default) (m.dropWay_sets l i w n l')

theorem MemSys.dropWay_level (m : MemSys) (l : Level) (i w n : Nat) :
    ((m.dropWay l i w n).level l).hits = (m.level l).hits ∧ ((m.dropWay l i w n).level l).misses = (m.level l).misses ∧
    ((m.dropWay l i w n).level l).evictions = (m.level l).evictions + n ∧
    ((m.dropWay l i w n).level l).writebacks = (m.level l).writebacks + (if (m.line l i w).dirty then 1 else 0) := by
  simp [MemSys.dropWay, MemSys.level]

theorem MemSys.dropWay_line {m : MemSys} {l : Level} {i w : Nat} (hvalid : (m.line l i w).valid = true) (n : Nat)
    (l' : Level) (j u : Nat) :
    (m.dropWay l i w n).line l' j u = if l' = l ∧ j = i ∧ u = w then (m.line l i w).invalidated else m.line l' j u := by
  rw [← MemSys.line_putLine (MemSys.set_lt_of_valid hvalid) (MemSys.way_lt_of_valid hvalid)]
  exact congrArg (CacheSet.way · u) (m.dropWay_setAt l i w n l' j)

theorem MemSys.putLine_invalidated_good {c : Config} {m : MemSys} (h : m.good c) {l : Level} {i w : Nat}
    (hvalid : (m.line l i w).valid = true) : (m.putLine l i w (m.line l i w).invalidated).good c :=
  have hi := MemSys.sets_length h l ▸ MemSys.set_lt_of_valid hvalid
  MemSys.putSet_good h i (CacheSet.good_update (MemSys.setAt_good h hi) (MemSys.way_lt_of_valid hvalid)
    (CacheLine.good_invalidated (MemSys.line_good h hvalid)) rfl rfl (fun hv => by cases hv))

theorem MemSys.dropWay_good {c : Config} {m : MemSys} (h : m.good c) {l : Level} {i w : Nat}
    (hvalid : (m.line l i w).valid = true) (n : Nat) : (m.dropWay l i w n).good c :=
  MemSys.good_of_levels (MemSys.putLine_invalidated_good h hvalid) h.1 (m.dropWay_sets l i w n)

/-- `Evict` is a way taken out with its eviction counted (R144). -/
theorem evict_eq_takenOut (c : Config) (l : Level) (i w : Nat) (m : MemSys) :
    evict c (access c l.below) l i w m = m.takenOut c l i w 1 := by
  have hline : (m.countEviction l).line l i w = m.line l i w := by rw [MemSys.line, MemSys.countEviction_setAt, MemSys.line]
  have hset : (m.countEviction l).setAt l i = m.setAt l i := MemSys.countEviction_setAt m l l i
  cases hvalid : (m.line l i w).valid with
  | false => rw [evict_invalid _ _ _ _ _ _ hvalid, MemSys.takenOut_invalid 1 hvalid]
  | true =>
    rw [evict_valid _ _ _ _ _ _ hvalid]
    cases hdirty : (m.line l i w).dirty with
    | false =>
      rw [retire_clean _ _ _ _ _ _ (hline ▸ hdirty), MemSys.takenOut_clean 1 hvalid hdirty, hline, MemSys.putLine, hset]
      simp [MemSys.dropWay, MemSys.putSet, MemSys.countEviction, MemSys.setLevel, MemSys.level, hdirty, CacheLine.invalidated]
    | true =>
      rw [retire_dirty _ _ _ _ _ _ (hline ▸ hdirty), MemSys.takenOut_dirty 1 hvalid hdirty, hline, MemSys.putLine, hset]
      simp [MemSys.dropWay, MemSys.putSet, MemSys.countEviction, MemSys.countWriteback, MemSys.setLevel, MemSys.level, hdirty,
        CacheLine.invalidated]

/-- `WritebackInvalidate` is a way taken out with no eviction counted (R146). -/
theorem writebackInvalidate_eq_takenOut (c : Config) (l : Level) (i w : Nat) (m : MemSys) :
    writebackInvalidate c (access c l.below) l i w m = m.takenOut c l i w 0 := by
  cases hvalid : (m.line l i w).valid with
  | false => rw [writebackInvalidate_invalid _ _ _ _ _ _ hvalid, MemSys.takenOut_invalid 0 hvalid]
  | true =>
    rw [writebackInvalidate_valid _ _ _ _ _ _ hvalid]
    cases hdirty : (m.line l i w).dirty with
    | false =>
      rw [retire_clean _ _ _ _ _ _ hdirty, MemSys.takenOut_clean 0 hvalid hdirty]
      simp [MemSys.dropWay, MemSys.putLine, MemSys.putSet, MemSys.setLevel, MemSys.level, hdirty, CacheLine.invalidated]
    | true =>
      rw [retire_dirty _ _ _ _ _ _ hdirty, MemSys.takenOut_dirty 0 hvalid hdirty]
      simp [MemSys.dropWay, MemSys.putLine, MemSys.putSet, MemSys.countWriteback, MemSys.setLevel, MemSys.level, hdirty,
        CacheLine.invalidated]

theorem MemSys.takenOut_good {c : Config} (hok : c.ok = true) (l : Level) (i w n : Nat) {m : MemSys} (h : m.good c) :
    (m.takenOut c l i w n).good c := by
  cases hvalid : (m.line l i w).valid with
  | false => exact (MemSys.takenOut_invalid n hvalid).symm ▸ h
  | true =>
    cases hdirty : (m.line l i w).dirty with
    | false => exact (MemSys.takenOut_clean n hvalid hdirty).symm ▸ MemSys.dropWay_good h hvalid n
    | true =>
      rw [MemSys.takenOut_dirty n hvalid hdirty]
      refine (access_below_sound hok l _ _ ?_ (MemSys.dropWay_good h hvalid n)).1
      simp [Access.fits, Access.addr, Access.size, c.offsetOf_compose hok, CacheLine.good_data (MemSys.line_good h hvalid)]

/-- What a way taken out leaves of its own level after the way is dropped: the write below drops Shared lines at most. -/
theorem MemSys.takenOut_keptAt {c : Config} {l : Level} {i w : Nat} (n : Nat) {m : MemSys}
    (hvalid : (m.line l i w).valid = true) :
    (m.dropWay l i w n).keptAt l (m.takenOut c l i w n) ∧ (m.dropWay l i w n).sameCounters l (m.takenOut c l i w n) := by
  cases hdirty : (m.line l i w).dirty with
  | false =>
    rw [MemSys.takenOut_clean n hvalid hdirty]
    exact ⟨MemSys.keptAt_of_eq fun _ => rfl, MemSys.sameCounters_of_level_eq rfl⟩
  | true =>
    rw [MemSys.takenOut_dirty n hvalid hdirty]
    exact ⟨access_below_keeps c l _ _, access_below_keepsCounters c l _ _⟩

/-- The counters of a level a way of which is taken out (R144, R146). -/
theorem MemSys.takenOut_counters (c : Config) (l : Level) (i w n : Nat) (m : MemSys) :
    ((m.takenOut c l i w n).level l).hits = (m.level l).hits ∧
    ((m.takenOut c l i w n).level l).misses = (m.level l).misses ∧
    ((m.takenOut c l i w n).level l).evictions = (m.level l).evictions + (if (m.line l i w).valid then n else 0) ∧
    ((m.takenOut c l i w n).level l).writebacks =
      (m.level l).writebacks + (if (m.line l i w).valid && (m.line l i w).dirty then 1 else 0) := by
  cases hvalid : (m.line l i w).valid with
  | false => simp [MemSys.takenOut_invalid n hvalid]
  | true =>
    obtain ⟨hhits, hmisses, hevictions, hwritebacks⟩ := (MemSys.takenOut_keptAt (c := c) n hvalid).2
    obtain ⟨hhits', hmisses', hevictions', hwritebacks'⟩ := m.dropWay_level l i w n
    rw [hhits, hmisses, hevictions, hwritebacks, hhits', hmisses', hevictions', hwritebacks']
    simp

theorem MemSys.takenOut_accessCounter (c : Config) (l : Level) (i w n : Nat) (m : MemSys) (j : Nat) :
    ((m.takenOut c l i w n).setAt l j).accessCounter = (m.setAt l j).accessCounter := by
  cases hvalid : (m.line l i w).valid with
  | false => rw [MemSys.takenOut_invalid n hvalid]
  | true =>
    rw [((MemSys.takenOut_keptAt (c := c) n hvalid).1 j).1, MemSys.dropWay_setAt, MemSys.putLine_accessCounter]

/-- The way taken out holds its line, invalid (R144, R146). -/
theorem MemSys.takenOut_line_same {c : Config} {l : Level} {i w : Nat} (n : Nat) {m : MemSys}
    (hvalid : (m.line l i w).valid = true) : (m.takenOut c l i w n).line l i w = (m.line l i w).invalidated := by
  have hdropped : (m.dropWay l i w n).line l i w = (m.line l i w).invalidated := by simp [MemSys.dropWay_line hvalid]
  have hkept := (MemSys.takenOut_keptAt (c := c) n hvalid).1.line i w
  rw [hkept.eq_of_invalid (by simp [hdropped, CacheLine.invalidated]), hdropped]

theorem MemSys.takenOut_line_invalid (c : Config) (l : Level) (i w n : Nat) (m : MemSys) :
    ((m.takenOut c l i w n).line l i w).valid = false := by
  cases hvalid : (m.line l i w).valid with
  | false => rw [MemSys.takenOut_invalid n hvalid, hvalid]
  | true => rw [MemSys.takenOut_line_same n hvalid, CacheLine.invalidated]

theorem MemSys.takenOut_line_other (c : Config) (l : Level) (i w n : Nat) (m : MemSys) {j u : Nat} (hne : j ≠ i ∨ u ≠ w) :
    (m.line l j u).keptOrDropped ((m.takenOut c l i w n).line l j u) := by
  cases hvalid : (m.line l i w).valid with
  | false => exact (MemSys.takenOut_invalid n hvalid).symm ▸ .inl rfl
  | true =>
    have hdropped : (m.dropWay l i w n).line l j u = m.line l j u := by
      rw [MemSys.dropWay_line hvalid, if_neg fun hand => hne.elim (· hand.2.1) (· hand.2.2)]
    exact hdropped ▸ (MemSys.takenOut_keptAt (c := c) n hvalid).1.line j u

/-- Levels off the chain below keep their lines when a way is taken out. -/
theorem MemSys.takenOut_keptAt_ne (c : Config) {l l' : Level} (hl : l' ≠ l) (hbelow : l' ∉ l.below) (i w n : Nat)
    (m : MemSys) : m.keptAt l' (m.takenOut c l i w n) := by
  have hdrop : m.keptAt l' (m.dropWay l i w n) := MemSys.keptAt_of_eq fun j => by
    rw [MemSys.setAt, MemSys.dropWay_level_ne _ _ _ _ hl, MemSys.setAt]
  cases hvalid : (m.line l i w).valid with
  | false => exact (MemSys.takenOut_invalid n hvalid).symm ▸ MemSys.keptAt_of_eq fun _ => rfl
  | true =>
    cases hdirty : (m.line l i w).dirty with
    | false => exact (MemSys.takenOut_clean n hvalid hdirty).symm ▸ hdrop
    | true => exact (MemSys.takenOut_dirty n hvalid hdirty).symm ▸ hdrop.trans (access_keeps c l' hbelow _ _)

/-- Where nothing is written back, main memory, the draws, the other levels and the other lines stay (R144, R146). -/
theorem MemSys.takenOut_frame_of_clean {c : Config} {l : Level} {i w : Nat} (n : Nat) {m : MemSys}
    (hclean : (m.line l i w).dirty = false) :
    (m.takenOut c l i w n).mem = m.mem ∧ (m.takenOut c l i w n).victims = m.victims ∧
    (∀ l' ≠ l, (m.takenOut c l i w n).level l' = m.level l') ∧
    ∀ j u, j ≠ i ∨ u ≠ w → (m.takenOut c l i w n).line l j u = m.line l j u := by
  cases hvalid : (m.line l i w).valid with
  | false =>
    rw [MemSys.takenOut_invalid n hvalid]
    exact ⟨rfl, rfl, fun _ _ => rfl, fun _ _ _ => rfl⟩
  | true =>
    rw [MemSys.takenOut_clean n hvalid hclean]
    refine ⟨rfl, rfl, fun l' hl => MemSys.dropWay_level_ne _ _ _ _ hl, fun j u hne => ?_⟩
    rw [MemSys.dropWay_line hvalid, if_neg fun hand => hne.elim (· hand.2.1) (· hand.2.2)]

/-! ## An access at one level (R138) -/

/-- The line pulled from below on a miss, and the hierarchy after the pull (R142). -/
def pulledBy (c : Config) (l : Level) (a : Word) (m : MemSys) : List Byte × MemSys :=
  access c l.below (.read (c.lineAddr a) c.lineSize) (m.afterMiss l (c.indexOf l a))

/-- The way a miss installs its line in (R142, R143). -/
def missWay (c : Config) (l : Level) (a : Word) (m : MemSys) : Nat := (victim c l (c.indexOf l a) (pulledBy c l a m).2).1

/-- The hierarchy a miss installs its line in: after the pull and the victim's going (R142, R144). -/
def missOut (c : Config) (l : Level) (a : Word) (m : MemSys) : MemSys :=
  (victim c l (c.indexOf l a) (pulledBy c l a m).2).2.takenOut c l (c.indexOf l a) (missWay c l a m) 1

/-- The line a miss installs (R142, R154). -/
def missLine (c : Config) (l : Level) (a : Word) (m : MemSys) : CacheLine :=
  { tag := c.tagOf l a, valid := true, dirty := false, state := installState c l (c.lineAddr a) (missOut c l a m)
    lastAccess := ((missOut c l a m).setAt l (c.indexOf l a)).accessCounter, data := (pulledBy c l a m).1 }

/-- The hierarchy after a miss. -/
def missDone (c : Config) (l : Level) (a : Word) (m : MemSys) : MemSys :=
  (missOut c l a m).putLine l (c.indexOf l a) (missWay c l a m) (missLine c l a m)

theorem locate_eq_afterHit {c : Config} (hok : c.ok = true) {lower : Lower} {l : Level} {a : Word} {m : MemSys} (h : m.good c)
    {w : Nat} (htag : (m.line l (c.indexOf l a) w).hasTag (c.tagOf l a) = true) :
    locate c lower l a m = (w, m.afterHit l (c.indexOf l a) w (m.line l (c.indexOf l a) w)) := by
  have hi := c.indexOf_lt hok l a
  rw [locate_hit c lower l a m w ((MemSys.lookup_eq_some_iff h).mpr htag),
    MemSys.afterHit_eq _ _ _ _ _ (MemSys.sets_length h l ▸ hi), ← MemSys.hitCounted_line h hi]
  rfl

theorem locate_eq_missDone {c : Config} {l : Level} {a : Word} {m : MemSys} (hmiss : m.copyAt c l a = none) :
    locate c (access c l.below) l a m = (missWay c l a m, missDone c l a m) := by
  rw [locate_miss c _ l a m ((MemSys.lookup_eq_none_iff c m l a).mpr hmiss)]
  simp only [miss, evict_eq_takenOut, missDone, missLine, missOut, missWay, pulledBy, MemSys.afterMiss_eq]
  rfl

theorem access_read_eq (c : Config) (l : Level) (a : Word) (n : Nat) (m : MemSys) :
    access c l.chain (.read a n) m =
      ((((locate c (access c l.below) l a m).2.line l (c.indexOf l a) (locate c (access c l.below) l a m).1).data.drop
        (c.offsetOf a)).take n, (locate c (access c l.below) l a m).2) := by
  rw [Level.chain_eq]
  rfl

theorem access_write_eq (c : Config) (l : Level) (a : Word) (bs : List Byte) (m : MemSys) :
    access c l.chain (.write a bs) m =
      ([], coherencyInvalidate c l (c.lineAddr a) ((locate c (access c l.below) l a m).2.putLine l (c.indexOf l a)
        (locate c (access c l.below) l a m).1
        (((locate c (access c l.below) l a m).2.line l (c.indexOf l a) (locate c (access c l.below) l a m).1).written
          (c.offsetOf a) bs))) := by
  rw [Level.chain_eq]
  rfl

/-! ## The parts of a miss -/

section
variable {c : Config} (hok : c.ok = true) {l : Level} {a : Word} {m : MemSys} (h : m.good c)
include hok h

theorem pulledBy_sound : (pulledBy c l a m).2.good c ∧ (pulledBy c l a m).1.length = c.lineSize := by
  have hfits : (Access.read (c.lineAddr a) c.lineSize).fits c := by
    simp [Access.fits, Access.addr, Access.size, c.offsetOf_lineAddr hok]
  obtain ⟨hgood, hbytes⟩ := access_below_sound hok l _ _ hfits (MemSys.afterMiss_good h (c.indexOf_lt hok l a))
  exact ⟨hgood, hbytes _ _ rfl⟩

theorem missWay_lt : missWay c l a m < c.assoc.get l :=
  victim_lt hok l _ (MemSys.ways_length (pulledBy_sound hok h).1 (c.indexOf_lt hok l a))

theorem missOut_good : (missOut c l a m).good c :=
  MemSys.takenOut_good hok l _ _ _ (victim_good l _ (pulledBy_sound hok h).1)

/-- The set the line is installed in awaits it (R142). -/
theorem missOut_awaits (hmiss : m.copyAt c l a = none) :
    ((missOut c l a m).setAt l (c.indexOf l a)).awaits (c.tagOf l a) := by
  have hi := c.indexOf_lt hok l a
  have hset : ((m.afterMiss l (c.indexOf l a)).setAt l (c.indexOf l a)).awaits (c.tagOf l a) := by
    rw [MemSys.afterMiss_setAt h hi, if_pos ⟨rfl, rfl⟩]
    exact CacheSet.awaits_bumped (MemSys.setAt_good h hi) ((MemSys.lookup_eq_none_iff c m l a).mpr hmiss)
  have hpulled : ((pulledBy c l a m).2.setAt l (c.indexOf l a)).awaits (c.tagOf l a) :=
    (access_below_keeps c l _ _ _).awaits hset
  have := (evict_victim hok (access_below_sound hok l) (access_below_keeps c l) hi (pulledBy_sound hok h).1 hpulled).2
  rwa [evict_eq_takenOut] at this

theorem missDone_located (hmiss : m.copyAt c l a = none) : LocatedAt c l a (missWay c l a m, missDone c l a m) :=
  locate_eq_missDone hmiss ▸ locate_located hok (access_below_sound hok l) (access_below_keeps c l) a h

theorem missDone_line (l' : Level) (j u : Nat) :
    (missDone c l a m).line l' j u = if l' = l ∧ j = c.indexOf l a ∧ u = missWay c l a m then missLine c l a m
      else (missOut c l a m).line l' j u :=
  MemSys.line_putLine (MemSys.sets_length (missOut_good hok h) l ▸ c.indexOf_lt hok l a)
    (MemSys.ways_length (missOut_good hok h) (c.indexOf_lt hok l a) ▸ missWay_lt hok h) _ l' j u

theorem missDone_line_same : (missDone c l a m).line l (c.indexOf l a) (missWay c l a m) = missLine c l a m := by
  simp [missDone_line hok h]

theorem missOut_accessCounter (j : Nat) : ((missOut c l a m).setAt l j).accessCounter =
    (m.setAt l j).accessCounter + if j = c.indexOf l a then 1 else 0 := by
  rw [missOut, MemSys.takenOut_accessCounter, victim_setAt, pulledBy, (access_below_keeps c l _ _ j).1,
    MemSys.afterMiss_setAt h (c.indexOf_lt hok l a)]
  by_cases hj : j = c.indexOf l a <;> simp [hj, CacheSet.bumped]

end

/-- The counters of a level after a miss (R142, R144). -/
theorem missOut_counters (c : Config) (l : Level) (a : Word) (m : MemSys) :
    (m.level l).missCounted ((pulledBy c l a m).2.line l (c.indexOf l a) (missWay c l a m))
      ((missOut c l a m).level l) := by
  obtain ⟨hhits, hmisses, hevictions, hwritebacks⟩ := MemSys.takenOut_counters c l (c.indexOf l a) (missWay c l a m) 1
    (victim c l (c.indexOf l a) (pulledBy c l a m).2).2
  obtain ⟨hhits', hmisses', hevictions', hwritebacks'⟩ := access_below_keepsCounters c l
    (.read (c.lineAddr a) c.lineSize) (m.afterMiss l (c.indexOf l a))
  rw [victim_level] at hhits hmisses hevictions hwritebacks
  rw [MemSys.line, victim_setAt] at hevictions hwritebacks
  refine ⟨hhits.trans (hhits'.trans ?_), hmisses.trans (hmisses'.trans ?_),
    hevictions.trans (congrArg (· + _) (hevictions'.trans ?_)),
    hwritebacks.trans (congrArg (· + _) (hwritebacks'.trans ?_))⟩
  all_goals simp [MemSys.afterMiss, MemSys.level]

end Sys2Proof.Machine
end

section
/-! PROOFS. Memory (40_cache_ops.md): what the bytes of a chain are, and that the traffic of an access
keeps them (R82, R138). -/

namespace Sys2Proof.Machine

/-! ## Main memory (R70) -/

/-- A byte after a write of bytes that do not wrap round onto themselves: the one written there, else as before. -/
theorem Memory.readByte_writeBytes : ∀ (bs : List Byte) {m : Memory}, m.wf = true → ∀ (a x : Word), bs.length ≤ 2 ^ 64 →
    (m.writeBytes a bs).readByte x.toNat =
      if (x - a).toNat < bs.length then bs.getD (x - a).toNat 0 else m.readByte x.toNat
  | [], _, _, _, _, _ => rfl
  | b :: bs, m, hm, a, x, hlength => by
    rw [List.length_cons] at hlength
    rw [Memory.writeBytes, Memory.readByte_writeBytes bs (Memory.writeByte_wf b a.isLt hm) (a + 1) x (by omega),
      Memory.readByte_writeByte hm]
    by_cases hx : x = a
    · subst hx
      have hlast : (x - (x + 1)).toNat = 2 ^ 64 - 1 := by
        have : x - (x + 1) = -1 := by ring
        rw [this]
        rfl
      rw [hlast, if_neg (by omega)]
      simp
    · have hne : x.toNat ≠ a.toNat := fun heq => hx (BitVec.eq_of_toNat_eq heq)
      have hsucc : (x - a).toNat = (x - (a + 1)).toNat + 1 := by bv_omega
      simp only [hsucc, hne, if_false, List.length_cons, Nat.add_lt_add_iff_right, List.getD_cons_succ]

/-! ## The bytes of a chain (R82) -/

theorem MemSys.byteFrom_of_some {c : Config} {m : MemSys} {l : Level} {a : Word} {ln : CacheLine} (ls : List Level)
    (h : m.copyAt c l a = some ln) : m.byteFrom c (l :: ls) a = ln.data.getD (c.offsetOf a) 0 := by
  simp only [MemSys.byteFrom, h]

theorem MemSys.byteFrom_of_none {c : Config} {m : MemSys} {l : Level} {a : Word} (ls : List Level)
    (h : m.copyAt c l a = none) : m.byteFrom c (l :: ls) a = m.byteFrom c ls a := by
  simp only [MemSys.byteFrom, h]

/-- The bytes of a chain depend on its copies and on main memory alone. -/
theorem MemSys.byteFrom_congr {c : Config} {m m' : MemSys} {a : Word} : ∀ {ls : List Level},
    (∀ l ∈ ls, m'.copyAt c l a = m.copyAt c l a) → m'.mem = m.mem → m'.byteFrom c ls a = m.byteFrom c ls a
  | [], _, hmem => by rw [MemSys.byteFrom, hmem, MemSys.byteFrom]
  | l :: ls, h, hmem => by
    have hrest := MemSys.byteFrom_congr (a := a) (fun l' hl' => h l' (List.mem_cons_of_mem _ hl')) hmem
    rw [MemSys.byteFrom, h l List.mem_cons_self, MemSys.byteFrom, hrest]

/-- The clean copies of a level agree with what a chain below it holds. -/
def MemSys.agreesAt (c : Config) (m : MemSys) (l : Level) (ls : List Level) : Prop :=
  ∀ a ln, m.copyAt c l a = some ln → ln.dirty = false → ln.data.getD (c.offsetOf a) 0 = m.byteFrom c ls a

/-- The clean copies of each level of a chain agree with what lies below them in it: the ground of the value rule (R82). -/
def MemSys.coherentOn (c : Config) (m : MemSys) : List Level → Prop
  | [] => True
  | l :: ls => m.agreesAt c l ls ∧ m.coherentOn c ls

theorem MemSys.coherent_iff (c : Config) (m : MemSys) : m.coherent c ↔ m.coherentOn c Level.l1d.chain := by
  simp [MemSys.coherent, MemSys.coherentOn, MemSys.agreesAt, Level.chain, Level.below]

/-- Where no more than a clean copy of an address is dropped and what lies below is the same, its byte is the same. -/
theorem MemSys.byteFrom_thinned {c : Config} {m m' : MemSys} {l : Level} {ls : List Level} {a : Word}
    (ht : m'.copyAt c l a = m.copyAt c l a ∨
      m'.copyAt c l a = none ∧ ∃ ln, m.copyAt c l a = some ln ∧ ln.dirty = false)
    (h : m.agreesAt c l ls) (hbelow : m'.byteFrom c ls a = m.byteFrom c ls a) :
    m'.byteFrom c (l :: ls) a = m.byteFrom c (l :: ls) a := by
  rcases ht with heq | ⟨hnone, ln, hsome, hclean⟩
  · rw [MemSys.byteFrom, heq, MemSys.byteFrom, hbelow]
  · rw [MemSys.byteFrom_of_none _ hnone, MemSys.byteFrom_of_some _ hsome, h a ln hsome hclean, hbelow]

/-- Where copies of a level are dropped, and what lies below is the same wherever a copy is left, those left agree. -/
theorem MemSys.agreesAt_of_dropped {c : Config} {m m' : MemSys} {l : Level} {ls : List Level}
    (hdrop : ∀ a, m'.copyAt c l a = m.copyAt c l a ∨ m'.copyAt c l a = none) (h : m.agreesAt c l ls)
    (hbelow : ∀ a, m'.copyAt c l a ≠ none → m'.byteFrom c ls a = m.byteFrom c ls a) : m'.agreesAt c l ls := by
  intro a ln hcopy hclean
  rw [hbelow a (by simp [hcopy])]
  rcases hdrop a with heq | hnone
  · exact h a ln (heq ▸ hcopy) hclean
  · rw [hnone] at hcopy
    cases hcopy

/-- A chain some of whose clean copies are dropped, over the same chain below, holds the same bytes and is coherent still. -/
theorem MemSys.coherentOn_append {c : Config} {m m' : MemSys} {ls : List Level} (hbelow : m'.coherentOn c ls)
    (hbytes : ∀ a, m'.byteFrom c ls a = m.byteFrom c ls a) : ∀ {upper : List Level}, (∀ l ∈ upper, m.thinnedAt c l m') →
    m.coherentOn c (upper ++ ls) →
    m'.coherentOn c (upper ++ ls) ∧ ∀ a, m'.byteFrom c (upper ++ ls) a = m.byteFrom c (upper ++ ls) a
  | [], _, _ => ⟨hbelow, hbytes⟩
  | l :: upper, ht, h => by
    obtain ⟨hagrees, hrest⟩ := h
    have htl := ht l List.mem_cons_self
    obtain ⟨hcoherent, hsame⟩ :=
      MemSys.coherentOn_append hbelow hbytes (fun l' hl' => ht l' (List.mem_cons_of_mem _ hl')) hrest
    exact ⟨⟨MemSys.agreesAt_of_dropped (fun a => (htl a).imp_right And.left) hagrees fun a _ => hsame a, hcoherent⟩,
      fun a => MemSys.byteFrom_thinned (htl a) hagrees (hsame a)⟩

theorem MemSys.coherentOn_thinned {c : Config} {m m' : MemSys} {ls : List Level} (hmem : m'.mem = m.mem)
    (ht : ∀ l ∈ ls, m.thinnedAt c l m') (h : m.coherentOn c ls) :
    m'.coherentOn c ls ∧ ∀ a, m'.byteFrom c ls a = m.byteFrom c ls a := by
  have := MemSys.coherentOn_append (ls := []) (m' := m') trivial (fun a => by rw [MemSys.byteFrom, hmem, MemSys.byteFrom]) ht
    ((List.append_nil ls).symm ▸ h)
  rwa [List.append_nil] at this

/-! ## A line put in a level of a chain -/

section
variable {c : Config} {m : MemSys} (h : m.good c) {l : Level} {i w : Nat} {ln : CacheLine}
  (h' : (m.putLine l i w ln).good c) (hi : i < c.numSets l) (hw : w < c.assoc.get l) {ls : List Level} (hl : l ∉ ls)
include hl

theorem MemSys.byteFrom_putLine_below (a : Word) : (m.putLine l i w ln).byteFrom c ls a = m.byteFrom c ls a :=
  MemSys.byteFrom_congr (fun _ hl' => MemSys.copyAt_of_level_eq (m.putLine_level_ne (ne_of_mem_of_not_mem hl' hl) i w ln) a) rfl

theorem MemSys.coherentOn_putLine_below (hls : m.coherentOn c ls) : (m.putLine l i w ln).coherentOn c ls :=
  (MemSys.coherentOn_thinned (m := m) (m' := m.putLine l i w ln) rfl
    (fun _ hl' => MemSys.thinnedAt_of_level_eq (m.putLine_level_ne (ne_of_mem_of_not_mem hl' hl) i w ln)) hls).1

include h h' hi hw

/-- The bytes of a chain once a line is put in its first level: that line's where it is the copy, what lies below where the
line put away was, else as before. -/
theorem MemSys.byteFrom_putLine (a : Word) : (m.putLine l i w ln).byteFrom c (l :: ls) a =
    if c.indexOf l a = i ∧ ln.hasTag (c.tagOf l a) = true then ln.data.getD (c.offsetOf a) 0
    else if c.indexOf l a = i ∧ (m.line l i w).hasTag (c.tagOf l a) = true then m.byteFrom c ls a
    else m.byteFrom c (l :: ls) a := by
  have hcopy := MemSys.copyAt_putLine h h' hi hw a
  have hbelow := MemSys.byteFrom_putLine_below (c := c) (m := m) (i := i) (w := w) (ln := ln) hl a
  split
  · rename_i hnew
    rw [if_pos hnew] at hcopy
    exact MemSys.byteFrom_of_some _ hcopy
  · rename_i hnew
    rw [if_neg hnew] at hcopy
    split
    · rename_i hold
      rw [if_pos hold] at hcopy
      rw [MemSys.byteFrom_of_none _ hcopy, hbelow]
    · rename_i hold
      rw [if_neg hold] at hcopy
      rw [MemSys.byteFrom, hcopy, MemSys.byteFrom, hbelow]

/-- The chain stays coherent if the line put, where it is clean, agrees with what lies below. -/
theorem MemSys.coherentOn_putLine (hls : m.coherentOn c (l :: ls))
    (hnew : ln.dirty = false → ∀ a, c.indexOf l a = i → ln.hasTag (c.tagOf l a) = true →
      ln.data.getD (c.offsetOf a) 0 = m.byteFrom c ls a) : (m.putLine l i w ln).coherentOn c (l :: ls) := by
  obtain ⟨hagrees, hrest⟩ := hls
  refine ⟨fun a ln' hcopy hclean => ?_, MemSys.coherentOn_putLine_below hl hrest⟩
  rw [MemSys.byteFrom_putLine_below hl a]
  rw [MemSys.copyAt_putLine h h' hi hw] at hcopy
  split at hcopy
  · rename_i hand
    cases hcopy
    exact hnew hclean a hand.1 hand.2
  · split at hcopy
    · cases hcopy
    · exact hagrees a ln' hcopy hclean

end

/-! ## What a read answers (R82, R140) -/

/-- The byte of a buffer some places on. -/
theorem getD_take_drop {α : Type} (xs : List α) (o n k : Nat) (d : α) (hk : k < n) :
    ((xs.drop o).take n).getD k d = xs.getD (o + k) d := by
  simp [List.getD_eq_getElem?_getD, List.getElem?_drop, hk]

/-- The levels below a level are the chain of the next one, or none: what holds of main memory, and of a level's chain where it
holds of what is below, holds of every chain (R27). -/
theorem Level.chain_induction {P : List Level → Prop} (nil : P []) (cons : ∀ l : Level, P l.below → P l.chain) (l : Level) :
    P l.below ∧ P l.chain := by
  have h3 : P Level.l3.chain := cons .l3 nil
  have h2 : P Level.l2.chain := cons .l2 h3
  cases l with
  | l1i => exact ⟨h2, cons .l1i h2⟩
  | l1d => exact ⟨h2, cons .l1d h2⟩
  | l2 => exact ⟨h3, h2⟩
  | l3 => exact ⟨nil, h3⟩

/-- A way down that answers a read with the bytes of a chain. -/
def Lower.Answers (c : Config) (ls : List Level) (lower : Lower) : Prop :=
  ∀ a n m, c.offsetOf a + n ≤ c.lineSize → m.good c → ∀ k < n,
    (lower (.read a n) m).1.getD k 0 = m.byteFrom c ls (a + BitVec.ofNat 64 k)

/-- The bytes pulled on a miss are those below the level, which a counted miss leaves (R142). -/
theorem pulledBy_byte {c : Config} (hok : c.ok = true) {l : Level} (hbelow : Lower.Answers c l.below (access c l.below))
    {a : Word} {m : MemSys} (h : m.good c) {x : Word} (hx : c.lineAddr x = c.lineAddr a) :
    (pulledBy c l a m).1.getD (c.offsetOf x) 0 = m.byteFrom c l.below x := by
  have hi := c.indexOf_lt hok l a
  have hline : c.lineAddr a + BitVec.ofNat 64 (c.offsetOf x) = x := by
    have := c.lineAddr_add_offset x
    rw [← hx]
    bv_omega
  rw [pulledBy, hbelow _ _ _ (by simp [c.offsetOf_lineAddr hok]) (MemSys.afterMiss_good h hi) _ (c.offsetOf_lt hok x), hline]
  exact MemSys.byteFrom_congr (fun l' _ => MemSys.afterMiss_copyAt h hi l' x) rfl

theorem access_answers {c : Config} (hok : c.ok = true) (l : Level) :
    Lower.Answers c l.below (access c l.below) ∧ Lower.Answers c l.chain (access c l.chain) := by
  refine Level.chain_induction (P := fun ls => Lower.Answers c ls (access c ls)) ?_ ?_ l
  · exact fun a n m _ _ k hk => Memory.readBytes_getD m.mem n a k 0 hk
  · intro l hbelow a n m hfits h k hk
    obtain ⟨hline, hoffset⟩ := c.offsetOf_add hok (a := a) (k := k) (by omega)
    have hcopy := MemSys.copyAt_lineAddr hok m l hline
    rw [access_read_eq, getD_take_drop _ _ _ _ _ hk, ← hoffset, Level.chain_eq]
    cases hfound : m.copyAt c l a with
    | none =>
      rw [locate_eq_missDone hfound, missDone_line_same hok h, MemSys.byteFrom_of_none _ (hcopy.trans hfound)]
      exact pulledBy_byte hok hbelow h hline
    | some ln =>
      obtain ⟨w, rfl, htag⟩ := (MemSys.copyAt_eq_some_iff h).mp hfound
      have hi := c.indexOf_lt hok l a
      have hw := MemSys.ways_length h hi ▸ MemSys.way_lt_of_valid (Bool.and_eq_true_iff.mp htag).1
      rw [locate_eq_afterHit hok h htag, MemSys.afterHit_line h hi hw, if_pos ⟨rfl, rfl, rfl⟩,
        MemSys.byteFrom_of_some _ (hcopy.trans hfound)]

/-! ## An access keeps the bytes of its chain (R82, R138) -/

/-- The byte of an address after an access, from the one before. -/
def Access.byteAfter (acc : Access) (x : Word) (b : Byte) : Byte :=
  match acc with
  | .read _ _ => b
  | .write a bs => if (x - a).toNat < bs.length then bs.getD (x - a).toNat 0 else b

/-- A way down that keeps a coherent chain coherent, and changes its bytes as the access says. -/
def Lower.Exact (c : Config) (ls : List Level) (lower : Lower) : Prop :=
  ∀ acc m, acc.fits c → m.good c → m.coherentOn c ls →
    (lower acc m).2.coherentOn c ls ∧ ∀ x, (lower acc m).2.byteFrom c ls x = acc.byteAfter x (m.byteFrom c ls x)

/-- A hierarchy whose chain is coherent and holds the bytes another's does. -/
def MemSys.sameBytes (c : Config) (ls : List Level) (m m' : MemSys) : Prop :=
  m'.coherentOn c ls ∧ ∀ x, m'.byteFrom c ls x = m.byteFrom c ls x

theorem MemSys.sameBytes.trans {c : Config} {ls : List Level} {m m' m'' : MemSys} (h : m.sameBytes c ls m')
    (h' : m'.sameBytes c ls m'') : m.sameBytes c ls m'' := ⟨h'.1, fun x => (h'.2 x).trans (h.2 x)⟩

theorem MemSys.sameBytes_refl {c : Config} {ls : List Level} {m : MemSys} (h : m.coherentOn c ls) : m.sameBytes c ls m :=
  ⟨h, fun _ => rfl⟩

/-! ## A way taken out (R144, R146) -/

theorem MemSys.dropWay_copyAt {c : Config} {l : Level} {i w : Nat} (n : Nat) {m : MemSys} (h : m.good c)
    (hvalid : (m.line l i w).valid = true) (a : Word) : (m.dropWay l i w n).copyAt c l a =
      if c.indexOf l a = i ∧ (m.line l i w).hasTag (c.tagOf l a) = true then none else m.copyAt c l a := by
  have hi := MemSys.sets_length h l ▸ MemSys.set_lt_of_valid hvalid
  have hput := MemSys.copyAt_putLine h (MemSys.putLine_invalidated_good h hvalid) hi
    (MemSys.ways_length h hi ▸ MemSys.way_lt_of_valid hvalid) a
  rw [MemSys.copyAt_congr (congrArg CacheSet.ways (m.dropWay_setAt l i w n l _)), hput, if_neg]
  simp [CacheLine.invalidated, CacheLine.hasTag]

/-- A clean copy gone from the first level of a coherent chain leaves its bytes. -/
theorem MemSys.dropWay_sameBytes {c : Config} {l : Level} {i w : Nat} (n : Nat) {m : MemSys} (h : m.good c)
    (hvalid : (m.line l i w).valid = true) (hclean : (m.line l i w).dirty = false) (hls : m.coherentOn c l.chain) :
    m.sameBytes c l.chain (m.dropWay l i w n) := by
  refine MemSys.coherentOn_thinned rfl (fun l' _ => ?_) hls
  by_cases hl : l' = l
  · subst hl
    intro a
    rw [MemSys.dropWay_copyAt n h hvalid]
    split
    · rename_i hand
      obtain ⟨rfl, htag⟩ := hand
      exact .inr ⟨rfl, _, MemSys.copyAt_of_hasTag h htag, hclean⟩
    · exact .inl rfl
  · exact MemSys.thinnedAt_of_level_eq (MemSys.dropWay_level_ne _ _ _ _ hl)

/-- The bytes of a whole line written (R144, R146). -/
theorem Access.byteAfter_writeLine {c : Config} (hok : c.ok = true) {l : Level} {i : Nat} (hi : i < c.numSets l) {ln : CacheLine}
    (hln : ln.good c l) (hvalid : ln.valid = true) (x : Word) (b : Byte) :
    (Access.write (c.compose l ln.tag i 0) ln.data).byteAfter x b =
      if c.indexOf l x = i ∧ ln.hasTag (c.tagOf l x) = true then ln.data.getD (c.offsetOf x) 0 else b := by
  have hdata := CacheLine.good_data hln
  obtain ⟨-, ⟨-, htag⟩, -⟩ := hln
  obtain ⟨hindex, hparttag, hoffset⟩ := c.parts_compose hok htag hi (c.lineSize_pos hok)
  have hline : c.lineAddr x = c.lineAddr (c.compose l ln.tag i 0) ↔ c.indexOf l x = i ∧ ln.hasTag (c.tagOf l x) = true := by
    rw [c.lineAddr_eq_iff hok l, hindex, hparttag, CacheLine.hasTag, hvalid, Bool.true_and, beq_iff_eq, eq_comm (a := ln.tag)]
  have hlt := c.offsetOf_lt hok x
  have hsub := c.sub_lt_iff hok (a := c.compose l ln.tag i 0) (n := c.lineSize) (by omega) x
  rw [Access.byteAfter, hdata]
  by_cases hin : c.lineAddr x = c.lineAddr (c.compose l ln.tag i 0)
  · rw [if_pos (hsub.mpr ⟨hin, by omega, by omega⟩), if_pos (hline.mp hin), c.toNat_sub hin (by omega), hoffset, Nat.sub_zero]
  · rw [if_neg (fun hlt => hin (hsub.mp hlt).1), if_neg (fun hand => hin (hline.mpr hand))]

/-- A dirty line written to the next level once its way is invalid: the level holds no copy of it, and what is below holds its
bytes and is else as it was. -/
theorem MemSys.takenOut_dirty_below {c : Config} (hok : c.ok = true) {l : Level} (hexact : Lower.Exact c l.below (access c l.below))
    {i w : Nat} (n : Nat) {m : MemSys} (h : m.good c) (hvalid : (m.line l i w).valid = true)
    (hdirty : (m.line l i w).dirty = true) (hls : m.coherentOn c l.below) :
    (m.takenOut c l i w n).coherentOn c l.below ∧ ∀ x, (m.takenOut c l i w n).byteFrom c l.below x =
      if c.indexOf l x = i ∧ (m.line l i w).hasTag (c.tagOf l x) = true then (m.line l i w).data.getD (c.offsetOf x) 0
      else m.byteFrom c l.below x := by
  have hi := MemSys.sets_length h l ▸ MemSys.set_lt_of_valid hvalid
  have hline := MemSys.line_good h hvalid
  obtain ⟨hdropped, hdroppedBytes⟩ := MemSys.coherentOn_thinned (m := m) (m' := m.dropWay l i w n) rfl (fun l' hl' =>
    MemSys.thinnedAt_of_level_eq (MemSys.dropWay_level_ne _ _ _ _ (ne_of_mem_of_not_mem hl' l.not_mem_below))) hls
  obtain ⟨hcoherent, hbytes⟩ := hexact (.write (c.compose l (m.line l i w).tag i 0) (m.line l i w).data) _
    (by simp [Access.fits, Access.addr, Access.size, c.offsetOf_compose hok, CacheLine.good_data hline])
    (MemSys.dropWay_good h hvalid n) hdropped
  rw [MemSys.takenOut_dirty n hvalid hdirty]
  exact ⟨hcoherent, fun x => by rw [hbytes, Access.byteAfter_writeLine hok hi hline hvalid, hdroppedBytes]⟩

/-- A way taken out keeps the bytes of the chain of its level. -/
theorem MemSys.takenOut_sameBytes {c : Config} (hok : c.ok = true) {l : Level} (hexact : Lower.Exact c l.below (access c l.below))
    (i w n : Nat) {m : MemSys} (h : m.good c) (hls : m.coherentOn c l.chain) :
    m.sameBytes c l.chain (m.takenOut c l i w n) := by
  cases hvalid : (m.line l i w).valid with
  | false => exact (MemSys.takenOut_invalid n hvalid).symm ▸ MemSys.sameBytes_refl hls
  | true =>
    cases hdirty : (m.line l i w).dirty with
    | false => exact (MemSys.takenOut_clean n hvalid hdirty).symm ▸ MemSys.dropWay_sameBytes n h hvalid hdirty hls
    | true =>
      rw [Level.chain_eq] at hls ⊢
      obtain ⟨hagrees, hbelow⟩ := hls
      obtain ⟨hcoherent, hbytes⟩ := MemSys.takenOut_dirty_below hok hexact n h hvalid hdirty hbelow
      have hthinned := (MemSys.takenOut_keptAt (c := c) n hvalid).1.thinned (MemSys.dropWay_good h hvalid n)
        (MemSys.takenOut_good hok l i w n h)
      have hgone : ∀ a, c.indexOf l a = i ∧ (m.line l i w).hasTag (c.tagOf l a) = true →
          (m.takenOut c l i w n).copyAt c l a = none := fun a hand => by
        have hdropped := MemSys.dropWay_copyAt n h hvalid a
        rw [if_pos hand] at hdropped
        exact (hthinned a).elim (·.trans hdropped) And.left
      have hleft : ∀ a, ¬ (c.indexOf l a = i ∧ (m.line l i w).hasTag (c.tagOf l a) = true) →
          (m.dropWay l i w n).copyAt c l a = m.copyAt c l a := fun a hand => by
        rw [MemSys.dropWay_copyAt n h hvalid a, if_neg hand]
      refine ⟨⟨MemSys.agreesAt_of_dropped (fun a => ?_) hagrees (fun a hcopy => ?_), hcoherent⟩, fun a => ?_⟩
      · by_cases hand : c.indexOf l a = i ∧ (m.line l i w).hasTag (c.tagOf l a) = true
        · exact .inr (hgone a hand)
        · exact hleft a hand ▸ (hthinned a).imp_right And.left
      · rw [hbytes, if_neg fun hand => hcopy (hgone a hand)]
      · by_cases hand : c.indexOf l a = i ∧ (m.line l i w).hasTag (c.tagOf l a) = true
        · obtain ⟨rfl, htag⟩ := hand
          rw [MemSys.byteFrom_of_none _ (hgone a ⟨rfl, htag⟩), hbytes, if_pos ⟨rfl, htag⟩,
            MemSys.byteFrom_of_some _ (MemSys.copyAt_of_hasTag h htag)]
        · refine MemSys.byteFrom_thinned (hleft a hand ▸ hthinned a) hagrees ?_
          rw [hbytes, if_neg hand]

/-! ## The line an access finds (R137 to R142) -/

/-- There is no copy of a missed line where it is about to be installed. -/
theorem missOut_copyAt {c : Config} (hok : c.ok = true) {l : Level} {a : Word} {m : MemSys} (h : m.good c)
    (hmiss : m.copyAt c l a = none) {x : Word} (hx : c.lineAddr x = c.lineAddr a) : (missOut c l a m).copyAt c l x = none := by
  rw [MemSys.copyAt_lineAddr hok _ l hx]
  refine List.find?_eq_none.mpr fun ln hln htag => ?_
  obtain ⟨hvalid, heq⟩ := Bool.and_eq_true_iff.mp htag
  exact (missOut_awaits hok h hmiss ln hln).2 hvalid (beq_iff_eq.mp heq)

/-- A line put in the first level of a chain, with the bytes the chain holds, in place of one of that tag or an invalid one. -/
theorem MemSys.putLine_sameBytes {c : Config} {m : MemSys} (h : m.good c) {l : Level} {i w : Nat} {ln : CacheLine}
    (h' : (m.putLine l i w ln).good c) (hi : i < c.numSets l) (hw : w < c.assoc.get l) {ls : List Level} (hl : l ∉ ls)
    (hls : m.coherentOn c (l :: ls)) (hold : ∀ tag, (m.line l i w).hasTag tag = true → ln.hasTag tag = true)
    (hnew : ∀ a, c.indexOf l a = i → ln.hasTag (c.tagOf l a) = true →
      ln.data.getD (c.offsetOf a) 0 = m.byteFrom c (l :: ls) a ∧
      (ln.dirty = false → m.byteFrom c (l :: ls) a = m.byteFrom c ls a)) :
    m.sameBytes c (l :: ls) (m.putLine l i w ln) := by
  refine ⟨MemSys.coherentOn_putLine h h' hi hw hl hls fun hclean a hindex htag => ?_, fun a => ?_⟩
  · obtain ⟨hdata, hagrees⟩ := hnew a hindex htag
    exact hdata.trans (hagrees hclean)
  · rw [MemSys.byteFrom_putLine h h' hi hw hl]
    split
    · rename_i hand
      exact (hnew a hand.1 hand.2).1
    · rename_i hand
      rw [if_neg fun hand' => hand ⟨hand'.1, hold _ hand'.2⟩]

section
variable {c : Config} (hok : c.ok = true) {l : Level} (hexact : Lower.Exact c l.below (access c l.below)) {a : Word} {m : MemSys}
  (h : m.good c) (hls : m.coherentOn c l.chain)
include hok h hls

/-- A hit changes a stamp, and no byte. -/
theorem afterHit_sameBytes {w : Nat} (htag : (m.line l (c.indexOf l a) w).hasTag (c.tagOf l a) = true) :
    m.sameBytes c l.chain (m.afterHit l (c.indexOf l a) w (m.line l (c.indexOf l a) w)) := by
  have hi := c.indexOf_lt hok l a
  have hw := MemSys.ways_length h hi ▸ MemSys.way_lt_of_valid (Bool.and_eq_true_iff.mp htag).1
  have hcounted := MemSys.hitCounted_good h hi
  have hstart : m.sameBytes c l.chain (m.hitCounted l (c.indexOf l a)) :=
    MemSys.coherentOn_thinned rfl (fun l' _ x => .inl (MemSys.copyAt_congr (MemSys.hitCounted_ways h hi l' _))) hls
  have hdone := (locate_located hok (access_below_sound hok l) (access_below_keeps c l) a h).1
  rw [locate_eq_afterHit hok h htag, MemSys.afterHit_eq _ _ _ _ _ (MemSys.sets_length h l ▸ hi)] at hdone
  rw [MemSys.afterHit_eq _ _ _ _ _ (MemSys.sets_length h l ▸ hi)]
  refine hstart.trans ?_
  have hcoherent := hstart.1
  rw [Level.chain_eq] at hcoherent ⊢
  refine MemSys.putLine_sameBytes hcounted hdone hi hw l.not_mem_below hcoherent (fun tag hold => ?_) fun x hindex hx => ?_
  · rwa [MemSys.hitCounted_line h hi] at hold
  · have hcopy := MemSys.copyAt_of_hasTag (m := m.hitCounted l (c.indexOf l a)) (a := x) (w := w) hcounted
      (by rw [hindex, MemSys.hitCounted_line h hi]; exact hx)
    rw [hindex, MemSys.hitCounted_line h hi] at hcopy
    rw [MemSys.byteFrom_of_some _ hcopy]
    have hagrees := hcoherent.1 x _ hcopy
    exact ⟨rfl, hagrees⟩

include hexact

theorem pulledBy_sameBytes : m.sameBytes c l.chain (pulledBy c l a m).2 := by
  have hi := c.indexOf_lt hok l a
  have hcounted := MemSys.afterMiss_good h hi
  have hstart : m.sameBytes c l.chain (m.afterMiss l (c.indexOf l a)) :=
    MemSys.coherentOn_thinned rfl (fun l' _ x => .inl (MemSys.afterMiss_copyAt h hi l' x)) hls
  refine hstart.trans ?_
  have hthinned := (access_below_keeps c l (.read (c.lineAddr a) c.lineSize) _).thinned hcounted (pulledBy_sound hok h).1
  have hcoherent := hstart.1
  rw [Level.chain_eq] at hcoherent ⊢
  obtain ⟨hbelow, hbytes⟩ := hexact (.read (c.lineAddr a) c.lineSize) _
    (by simp [Access.fits, Access.addr, Access.size, c.offsetOf_lineAddr hok]) hcounted hcoherent.2
  exact MemSys.coherentOn_append (upper := [l]) hbelow hbytes (by simpa using hthinned) hcoherent

theorem missOut_sameBytes : m.sameBytes c l.chain (missOut c l a m) := by
  have hpulled := pulledBy_sameBytes hok hexact (a := a) h hls
  have hchosen : (pulledBy c l a m).2.sameBytes c l.chain (victim c l (c.indexOf l a) (pulledBy c l a m).2).2 :=
    MemSys.coherentOn_thinned (victim_mem _ _ _ _) (fun l' _ => MemSys.thinnedAt_of_level_eq (victim_level _ _ _ _ _)) hpulled.1
  exact (hpulled.trans hchosen).trans
    (MemSys.takenOut_sameBytes hok hexact _ _ _ (victim_good l _ (pulledBy_sound hok h).1) hchosen.1)

/-- A miss installs the bytes the chain holds (R142). -/
theorem missDone_sameBytes (hmiss : m.copyAt c l a = none) : m.sameBytes c l.chain (missDone c l a m) := by
  have hout := missOut_sameBytes hok hexact (a := a) h hls
  have hinvalid : ((missOut c l a m).line l (c.indexOf l a) (missWay c l a m)).valid = false :=
    MemSys.takenOut_line_invalid _ _ _ _ _ _
  refine hout.trans ?_
  have hbytes := hout.2
  have hcoherent := hout.1
  rw [Level.chain_eq] at hcoherent hbytes ⊢
  refine MemSys.putLine_sameBytes (missOut_good hok h) (missDone_located hok h hmiss).1 (c.indexOf_lt hok l a)
    (missWay_lt hok h) l.not_mem_below hcoherent (fun tag hold => ?_) fun x hindex hx => ?_
  · simp [CacheLine.hasTag, hinvalid] at hold
  · have htag : c.tagOf l a = c.tagOf l x := by simpa [missLine, CacheLine.hasTag] using hx
    have hline : c.lineAddr x = c.lineAddr a := (c.lineAddr_eq_iff hok l x a).mpr ⟨hindex, htag.symm⟩
    have hnone := missOut_copyAt hok h hmiss hline
    rw [MemSys.byteFrom_of_none _ hnone]
    refine ⟨?_, fun _ => rfl⟩
    calc (pulledBy c l a m).1.getD (c.offsetOf x) 0 = m.byteFrom c l.below x :=
          pulledBy_byte hok (access_answers hok l).1 h hline
      _ = m.byteFrom c (l :: l.below) x :=
          (MemSys.byteFrom_of_none _ ((MemSys.copyAt_lineAddr hok m l hline).trans hmiss)).symm
      _ = (missOut c l a m).byteFrom c (l :: l.below) x := (hbytes x).symm
      _ = (missOut c l a m).byteFrom c l.below x := MemSys.byteFrom_of_none _ hnone

/-- Finding the line of an access keeps the bytes of the chain (R137). -/
theorem locate_sameBytes : m.sameBytes c l.chain (locate c (access c l.below) l a m).2 := by
  cases hfound : m.copyAt c l a with
  | none => exact locate_eq_missDone hfound ▸ missDone_sameBytes hok hexact h hls hfound
  | some ln =>
    obtain ⟨w, rfl, htag⟩ := (MemSys.copyAt_eq_some_iff h).mp hfound
    exact locate_eq_afterHit hok h htag ▸ afterHit_sameBytes hok h hls htag

end

/-! ## The write into the line (R138, R141) -/

/-- A byte of a buffer after bytes are stored in it. -/
theorem storeAt_getD {data bs : List Byte} {o : Nat} (hfits : o + bs.length ≤ data.length) (k : Nat) (d : Byte) :
    (storeAt data o bs).getD k d = if o ≤ k ∧ k < o + bs.length then bs.getD (k - o) d else data.getD k d := by
  have htake : (data.take o).length = o := by
    rw [List.length_take]
    omega
  rw [storeAt, List.append_assoc]
  by_cases hlow : k < o
  · rw [if_neg (by omega), List.getD_append _ _ _ _ (htake.symm ▸ hlow)]
    simp [List.getD_eq_getElem?_getD, hlow]
  · rw [List.getD_append_right _ _ _ _ (by omega), htake]
    by_cases hin : k - o < bs.length
    · rw [if_pos (by omega), List.getD_append _ _ _ _ hin]
    · rw [if_neg (by omega), List.getD_append_right _ _ _ _ (by omega)]
      simp only [List.getD_eq_getElem?_getD, List.getElem?_drop]
      congr 2
      omega

section
variable {c : Config} (hok : c.ok = true) {l : Level} {a : Word} {bs : List Byte} {m : MemSys} (h : m.good c)
include hok h

/-- The way `Locate` answers holds the line of the address (R137). -/
theorem locate_hasTag : ((locate c (access c l.below) l a m).2.line l (c.indexOf l a)
    (locate c (access c l.below) l a m).1).hasTag (c.tagOf l a) = true := by
  cases hfound : m.copyAt c l a with
  | none =>
    rw [locate_eq_missDone hfound, missDone_line_same hok h]
    simp [missLine, CacheLine.hasTag]
  | some ln =>
    obtain ⟨w, rfl, htag⟩ := (MemSys.copyAt_eq_some_iff h).mp hfound
    have hi := c.indexOf_lt hok l a
    have hw := MemSys.ways_length h hi ▸ MemSys.way_lt_of_valid (Bool.and_eq_true_iff.mp htag).1
    rw [locate_eq_afterHit hok h htag, MemSys.afterHit_line h hi hw, if_pos ⟨rfl, rfl, rfl⟩]
    exact htag

end

/-- The line an access finds and the hierarchy it finds it in, with the bytes of a write stored in that line (R138). -/
def MemSys.stored (c : Config) (l : Level) (a : Word) (bs : List Byte) (found : Nat × MemSys) : MemSys :=
  found.2.putLine l (c.indexOf l a) found.1 ((found.2.line l (c.indexOf l a) found.1).written (c.offsetOf a) bs)

theorem access_write_snd (c : Config) (l : Level) (a : Word) (bs : List Byte) (m : MemSys) :
    (access c l.chain (.write a bs) m).2 =
      coherencyInvalidate c l (c.lineAddr a) (MemSys.stored c l a bs (locate c (access c l.below) l a m)) := by
  rw [access_write_eq]
  rfl

section
variable {c : Config} (hok : c.ok = true) {l : Level} (hl1i : l ≠ .l1i) {a : Word} {bs : List Byte}
  (hfits : c.offsetOf a + bs.length ≤ c.lineSize)
include hok hl1i hfits

theorem MemSys.stored_good {x : Nat × MemSys} (hx : LocatedAt c l a x) : (MemSys.stored c l a bs x).good c := by
  obtain ⟨hgood, hvalid⟩ := hx
  have hset := MemSys.setAt_good hgood (c.indexOf_lt hok l a)
  exact MemSys.putSet_good hgood _ (CacheSet.good_update hset (MemSys.way_lt_of_valid hvalid)
    (CacheLine.good_written (MemSys.line_good hgood hvalid) hl1i hvalid hfits) rfl rfl fun _ => hvalid)

/-- The bytes of a chain once a write is stored in its first level. -/
theorem MemSys.stored_bytes {x : Nat × MemSys} (hx : LocatedAt c l a x)
    (htag : (x.2.line l (c.indexOf l a) x.1).hasTag (c.tagOf l a) = true) (hls : x.2.coherentOn c l.chain) :
    (MemSys.stored c l a bs x).coherentOn c l.chain ∧ ∀ y, (MemSys.stored c l a bs x).byteFrom c l.chain y =
      (Access.write a bs).byteAfter y (x.2.byteFrom c l.chain y) := by
  have hstored := MemSys.stored_good hok hl1i hfits hx
  obtain ⟨hgood, hvalid⟩ := hx
  have hi := c.indexOf_lt hok l a
  have hw := MemSys.ways_length hgood hi ▸ MemSys.way_lt_of_valid hvalid
  rw [Level.chain_eq] at hls ⊢
  refine ⟨MemSys.coherentOn_putLine hgood hstored hi hw l.not_mem_below hls (fun hclean => by cases hclean), fun y => ?_⟩
  rw [MemSys.stored, MemSys.byteFrom_putLine hgood hstored hi hw l.not_mem_below]
  have hsame : ∀ tag, ((x.2.line l (c.indexOf l a) x.1).written (c.offsetOf a) bs).hasTag tag =
    (x.2.line l (c.indexOf l a) x.1).hasTag tag := fun _ => rfl
  have hline : c.indexOf l y = c.indexOf l a ∧ (x.2.line l (c.indexOf l a) x.1).hasTag (c.tagOf l y) = true ↔
      c.lineAddr y = c.lineAddr a := by
    rw [c.lineAddr_eq_iff hok l]
    simp only [CacheLine.hasTag, Bool.and_eq_true, beq_iff_eq] at htag ⊢
    rw [htag.2, htag.1, eq_comm (a := c.tagOf l a)]
    tauto
  simp only [hsame]
  by_cases hy : c.lineAddr y = c.lineAddr a
  · obtain ⟨hindex, hytag⟩ := hline.mpr hy
    have hdata := CacheLine.good_data (MemSys.line_good hgood hvalid)
    have hcopy := MemSys.copyAt_of_hasTag (a := y) (w := x.1) hgood (by rw [hindex]; exact hytag)
    rw [if_pos ⟨hindex, hytag⟩, MemSys.byteFrom_of_some _ hcopy, hindex, Access.byteAfter, CacheLine.written,
      storeAt_getD (hdata ▸ hfits)]
    by_cases hin : c.offsetOf a ≤ c.offsetOf y ∧ c.offsetOf y < c.offsetOf a + bs.length
    · rw [if_pos hin, if_pos ((c.sub_lt_iff hok hfits y).mpr ⟨hy, hin⟩), c.toNat_sub hy hin.1]
    · rw [if_neg hin, if_neg fun hlt => hin ((c.sub_lt_iff hok hfits y).mp hlt).2]
  · rw [if_neg (fun hand => hy (hline.mp hand)), if_neg (fun hand => hy (hline.mp hand)), Access.byteAfter,
      if_neg fun hlt => hy ((c.sub_lt_iff hok hfits y).mp hlt).1]

/-- A write down a coherent chain: the line is found, the bytes are stored in it, and Shared copies elsewhere are dropped. -/
theorem access_write_exact (hexact : Lower.Exact c l.below (access c l.below)) {m : MemSys} (h : m.good c)
    (hls : m.coherentOn c l.chain) :
    (access c l.chain (.write a bs) m).2.coherentOn c l.chain ∧
      ∀ y, (access c l.chain (.write a bs) m).2.byteFrom c l.chain y =
        (Access.write a bs).byteAfter y (m.byteFrom c l.chain y) := by
  have hlocated := locate_located hok (access_below_sound hok l) (access_below_keeps c l) a h
  obtain ⟨hcoherent, hbytes⟩ := locate_sameBytes hok hexact (a := a) h hls
  obtain ⟨hstored, hstoredBytes⟩ := MemSys.stored_bytes hok hl1i hfits hlocated (locate_hasTag hok h) hcoherent
  have hgood := MemSys.stored_good hok hl1i hfits hlocated
  rw [access_write_snd]
  obtain ⟨hdone, hdoneBytes⟩ := MemSys.coherentOn_thinned (coherencyInvalidate_mem c l (c.lineAddr a) _).1 (fun l' _ =>
    (coherencyInvalidate_keptAt c l' l (c.lineAddr a) _).thinned hgood (coherencyInvalidate_good hok l _ hgood)) hstored
  exact ⟨hdone, fun y => by rw [hdoneBytes, hstoredBytes, hbytes]⟩

end

/-- Down a chain without L1I every access is exact (R82, R138). -/
theorem access_exact {c : Config} (hok : c.ok = true) (l : Level) :
    Lower.Exact c l.below (access c l.below) ∧ (l ≠ .l1i → Lower.Exact c l.chain (access c l.chain)) := by
  have hall := Level.chain_induction (P := fun ls => .l1i ∉ ls → Lower.Exact c ls (access c ls)) ?_ ?_ l
  · refine ⟨hall.1 (by cases l <;> decide), fun hl => hall.2 ?_⟩
    cases l with
    | l1i => exact absurd rfl hl
    | l1d | l2 | l3 => decide
  · intro _ acc m hfits h _
    refine ⟨trivial, fun x => ?_⟩
    cases acc with
    | read a n => rfl
    | write a bs =>
      have hlength : bs.length ≤ 2 ^ 64 :=
        ((Nat.le_add_left _ _).trans hfits).trans (c.lineSize_lt hok).le
      exact Memory.readByte_writeBytes bs h.1 a x hlength
  · intro l hbelow hl acc m hfits h hls
    rw [Level.chain_eq, List.mem_cons, not_or] at hl
    obtain ⟨hl1i, hl⟩ := hl
    cases acc with
    | read a n =>
      rw [access_read_eq]
      exact locate_sameBytes hok (hbelow hl) h hls
    | write a bs => exact access_write_exact hok (Ne.symm hl1i) hfits (hbelow hl) h hls

end Sys2Proof.Machine
end

section
/-! PROOFS. Memory (40_cache_ops.md): what the data chain holds stays through reads, writes back and maintenance, so that every
step keeps the ground of the value rule (R82). -/

namespace Sys2Proof.Machine

/-! ## A read at L1I, off the data chain (R134) -/

theorem MemSys.l1i_clean {c : Config} {m : MemSys} (h : m.good c) (i w : Nat) : (m.line .l1i i w).dirty = false := by
  by_cases hi : i < c.numSets .l1i
  · by_cases hw : w < (m.setAt .l1i i).ways.length
    · obtain ⟨-, -, hclean⟩ := CacheSet.good_line (MemSys.setAt_good h hi) hw
      exact hclean rfl
    · rw [MemSys.line, CacheSet.way, List.getD_eq_default _ _ (Nat.le_of_not_lt hw)]
      rfl
  · have hlength := MemSys.sets_length h .l1i
    rw [MemSys.line, MemSys.setAt, CacheLevel.setAt, List.getD_eq_default _ _ (by omega)]
    rfl

section
variable {c : Config} (hok : c.ok = true) {l : Level} (hclean : ∀ x : MemSys, x.good c → ∀ i w, (x.line l i w).dirty = false)
  (a : Word) {m : MemSys} (h : m.good c) (hls : m.coherentOn c l.below)
include hok hclean h hls

/-- A miss at a level without dirty lines writes nothing back, so that what is below it is as the pull left it. -/
theorem missDone_sameBytes_below : m.sameBytes c l.below (missDone c l a m) := by
  have hi := c.indexOf_lt hok l a
  have hcounted : m.sameBytes c l.below (m.afterMiss l (c.indexOf l a)) :=
    MemSys.coherentOn_thinned rfl (fun l' _ x => .inl (MemSys.afterMiss_copyAt h hi l' x)) hls
  have hpulled : (m.afterMiss l (c.indexOf l a)).sameBytes c l.below (pulledBy c l a m).2 :=
    (access_exact hok l).1 (.read (c.lineAddr a) c.lineSize) _
      (by simp [Access.fits, Access.addr, Access.size, c.offsetOf_lineAddr hok]) (MemSys.afterMiss_good h hi) hcounted.1
  obtain ⟨hmem, -, hlevels, -⟩ := MemSys.takenOut_frame_of_clean (c := c) 1
    (hclean _ (victim_good l (c.indexOf l a) (pulledBy_sound hok (l := l) (a := a) h).1) (c.indexOf l a) (missWay c l a m))
  have hdone : (pulledBy c l a m).2.sameBytes c l.below (missDone c l a m) :=
    MemSys.coherentOn_thinned (hmem.trans (victim_mem _ _ _ _)) (fun l' hl' => MemSys.thinnedAt_of_level_eq (by
      have hne := ne_of_mem_of_not_mem hl' l.not_mem_below
      rw [missDone, MemSys.putLine_level_ne _ hne, missOut, hlevels l' hne, victim_level])) hpulled.1
  exact (hcounted.trans hpulled).trans hdone

theorem locate_sameBytes_below : m.sameBytes c l.below (locate c (access c l.below) l a m).2 := by
  cases hfound : m.copyAt c l a with
  | none => exact locate_eq_missDone hfound ▸ missDone_sameBytes_below hok hclean a h hls
  | some ln =>
    obtain ⟨w, rfl, htag⟩ := (MemSys.copyAt_eq_some_iff h).mp hfound
    rw [locate_eq_afterHit hok h htag]
    exact MemSys.coherentOn_thinned rfl (fun l' hl' => MemSys.thinnedAt_of_level_eq
      (m.afterHit_level_ne _ _ _ (ne_of_mem_of_not_mem hl' l.not_mem_below))) hls

end

/-! ## The data chain (R82) -/

theorem MemSys.coherentOn_of_append {c : Config} {m : MemSys} {ls : List Level} : ∀ {upper : List Level},
    m.coherentOn c (upper ++ ls) → m.coherentOn c ls
  | [], h => h
  | _ :: _, h => MemSys.coherentOn_of_append h.2

/-- A read keeps what the data chain holds, whichever its first level (R82, R134, R140). -/
theorem access_read_sameBytes {c : Config} (hok : c.ok = true) (k : ReadKind) (a : Word) (n : Nat) {m : MemSys} (h : m.good c)
    (hls : m.coherentOn c Level.l1d.chain) : m.sameBytes c Level.l1d.chain (access c k.first.chain (.read a n) m).2 := by
  rw [access_read_eq]
  cases k with
  | data => exact locate_sameBytes hok (access_exact hok .l1d).1 h hls
  | fetch =>
    obtain ⟨hcoherent, hbytes⟩ := locate_sameBytes_below hok (l := .l1i) (fun _ hx => MemSys.l1i_clean hx) a h
      (MemSys.coherentOn_of_append (upper := [.l1d]) hls)
    have hkept : m.keptAt .l1d (locate c (access c Level.l1i.below) .l1i a m).2 :=
      locate_keptAt (access_keeps c .l1d (by decide)) (by decide) a m
    have hgood := (locate_located hok (access_below_sound hok .l1i) (access_below_keeps c .l1i) a h).1
    exact MemSys.coherentOn_append (upper := [.l1d]) hcoherent hbytes (by simpa using hkept.thinned h hgood) hls

/-- A way taken out, at any level, keeps what the data chain holds (R84, R144, R146). -/
theorem MemSys.takenOut_current {c : Config} (hok : c.ok = true) (l : Level) (i w n : Nat) {m : MemSys} (h : m.good c)
    (hls : m.coherentOn c Level.l1d.chain) : m.sameBytes c Level.l1d.chain (m.takenOut c l i w n) := by
  have hgood := MemSys.takenOut_good hok l i w n h
  have hlift : ∀ upper : List Level, Level.l1d.chain = upper ++ l.chain → (∀ l' ∈ upper, l' ≠ l ∧ l' ∉ l.below) →
      m.sameBytes c Level.l1d.chain (m.takenOut c l i w n) := fun upper heq hupper => by
    rw [heq] at hls ⊢
    obtain ⟨hcoherent, hbytes⟩ :=
      MemSys.takenOut_sameBytes hok (access_exact hok l).1 i w n h (MemSys.coherentOn_of_append hls)
    exact MemSys.coherentOn_append hcoherent hbytes (fun l' hl' =>
      (MemSys.takenOut_keptAt_ne c (hupper l' hl').1 (hupper l' hl').2 i w n m).thinned h hgood) hls
  cases l with
  | l1i =>
    obtain ⟨hmem, -, hlevels, -⟩ := MemSys.takenOut_frame_of_clean (c := c) n (MemSys.l1i_clean h i w)
    exact MemSys.coherentOn_thinned hmem (fun l' hl' =>
      MemSys.thinnedAt_of_level_eq (hlevels l' (ne_of_mem_of_not_mem hl' (by decide)))) hls
  | l1d => exact hlift [] rfl (by decide)
  | l2 => exact hlift [.l1d] rfl (by decide)
  | l3 => exact hlift [.l1d, .l2] rfl (by decide)

/-- A good hierarchy whose data chain is coherent and holds what another's does. -/
def MemSys.sameData (c : Config) (m m' : MemSys) : Prop := m'.good c ∧ m.sameBytes c Level.l1d.chain m'

theorem MemSys.sameData.takenOut {c : Config} (hok : c.ok = true) (l : Level) (i w n : Nat) {m m' : MemSys}
    (h : m.sameData c m') : m.sameData c (m'.takenOut c l i w n) :=
  ⟨MemSys.takenOut_good hok l i w n h.1, h.2.trans (MemSys.takenOut_current hok l i w n h.1 h.2.1)⟩

theorem flushAll_sameData {c : Config} (hok : c.ok = true) {m m' : MemSys} (h : m.sameData c m') :
    m.sameData c (flushAll c m') :=
  forEachWay_keeps (fun l i w x _ _ hx => writebackInvalidate_eq_takenOut c l i w x ▸ hx.takenOut hok l i w 0) h

theorem invalidateLines_sameData {c : Config} (hok : c.ok = true) (lo hi : Word) {m m' : MemSys} (h : m.sameData c m') :
    m.sameData c (invalidateLines c lo hi m') := by
  refine forEachWay_keeps (fun l i w x _ _ hx => ?_) h
  split
  · exact writebackInvalidate_eq_takenOut c l i w x ▸ hx.takenOut hok l i w 0
  · exact hx

/-! ## The step -/

/-- Traffic through the hierarchy keeps the data chain coherent (R82). -/
theorem MemSys.Traffic.coherent {c : Config} (hok : c.ok = true) (hpath : c.dataPath = .hierarchy) {m m' : MemSys}
    (ht : m.Traffic c m') (hgood : m.good c) (h : m.coherentOn c Level.l1d.chain) : m'.coherentOn c Level.l1d.chain := by
  induction ht with
  | none => exact h
  | @read m' _ k a n _ before hread ih =>
    obtain ⟨hlegal, heq⟩ := Option.ite_none_right_eq_some.mp hread
    have := (access_read_sameBytes hok k a n (before.good hok hgood) ih).1
    rwa [Option.some.inj heq] at this
  | @write m' _ a bs before hwrite ih =>
    obtain ⟨hlegal, heq⟩ := Option.ite_none_right_eq_some.mp hwrite
    rw [← Option.some.inj heq]
    exact ((access_exact hok .l1d).2 (by decide) (.write a bs) _ (legal_fits hlegal) (before.good hok hgood) ih).1
  | direct a bs _ hmemory => cases hpath.symm.trans hmemory
  | writeBackAll before ih => exact (flushAll_sameData hok ⟨before.good hok hgood, MemSys.sameBytes_refl ih⟩).2.1
  | dropLines lo hi before ih =>
    exact (invalidateLines_sameData hok lo hi ⟨before.good hok hgood, MemSys.sameBytes_refl ih⟩).2.1

/-- A hierarchy whose value rule has its ground, in a configuration whose data accesses go through it (R71, R82). -/
def State.valueGround (s : State) : Prop :=
  s.cfg.dataPath = .hierarchy ∧ s.sys.good s.cfg ∧ s.sys.coherent s.cfg

theorem State.Does.valueGround {s t : State} (hok : s.cfg.ok = true) (h : s.valueGround) (hdo : s.Does t) :
    t.valueGround := by
  obtain ⟨hpath, hgood, hcoherent⟩ := h
  rw [State.valueGround, hdo.cfg, MemSys.coherent_iff]
  exact ⟨hpath, hdo.traffic.good hok hgood,
    hdo.traffic.coherent hok hpath hgood ((MemSys.coherent_iff _ _).mp hcoherent)⟩

/-- An empty hierarchy has no copy to disagree (R66). -/
theorem State.valueGround_resetBlock {s : State} (h : s.valueGround) : s.resetBlock.valueGround := by
  obtain ⟨hpath, hgood, -⟩ := h
  exact ⟨hpath, MemSys.good_resetCaches hgood.1, (resetCaches_noneValid s.cfg (m := s.resetBlock.sys) rfl).coherent _⟩

/-- Settles O9: all that reaches the hierarchy keeps what its data chain holds, a write what it does not cover, and reset
empties it. -/
theorem stepKeepsCoherence : Obligations.StepKeepsCoherence := fun _ _ hpath hgood hcoherent hstep =>
  (step_keeps (P := State.valueGround) (fun ⟨_, _, _, heq⟩ hs => heq ▸ hs) (fun hok hs hdo => hdo.valueGround hok hs)
    (fun _ => State.valueGround_resetBlock) ⟨hpath, hgood, hcoherent⟩ hstep).2.2

end Sys2Proof.Machine
end

section
/-! PROOFS. Memory (40_cache_ops.md): the commands that read (R140), and what a read does to the counters, stamps and lines of
every level (R137 to R145). -/

namespace Sys2Proof.Machine

/-! ## The commands -/

/-- A legal read command answers the access at its first level (R140). -/
theorem readCommand_legal (k : ReadKind) (addr size : Word) (s : State) (h : s.cfg.legal addr size.toNat = true) :
    readCommand k addr size s =
      { s with sys := (access s.cfg k.first.chain (.read addr size.toNat) s.sys).2
               resp := some ⟨.ok, 0, (access s.cfg k.first.chain (.read addr size.toNat) s.sys).1⟩ } := by
  rw [readCommand, cacheRead_legal _ _ _ _ _ h]
  rfl

theorem access_read_length {c : Config} (hok : c.ok = true) (l : Level) {a : Word} {n : Nat}
    (hfits : c.offsetOf a + n ≤ c.lineSize) {m : MemSys} (h : m.good c) : (access c l.chain (.read a n) m).1.length = n := by
  rw [Level.chain_eq]
  exact (access_cons_sound hok (access_below_sound hok l) l.not_mem_below (acc := .read a n) hfits h nofun).2 a n rfl

/-- What a legal read command answers, and that it changes no current value (R82, R140). -/
theorem readCommand_answers {s : State} {addr size : Word} (hok : s.cfg.ok = true) (hgood : s.sys.good s.cfg)
    (hlegal : s.cfg.legal addr size.toNat = true) (k : ReadKind) : ∃ (m : MemSys) (q : List Byte),
    (q, m) = access s.cfg k.first.chain (.read addr size.toNat) s.sys ∧
    readCommand k addr size s = { s with sys := m, resp := some ⟨.ok, 0, q⟩ } ∧ q.length = size.toNat ∧
    (∀ j < size.toNat, q.getD j 0 = s.sys.byteFrom s.cfg k.first.chain (addr + BitVec.ofNat 64 j)) ∧
    (s.sys.coherent s.cfg → ∀ a, m.current s.cfg a = s.sys.current s.cfg a) := by
  have hfits := legal_fits hlegal
  refine ⟨_, _, rfl, readCommand_legal k addr size s hlegal, access_read_length hok _ hfits hgood, ?_, fun hcoherent => ?_⟩
  · exact (access_answers hok k.first).2 addr _ _ hfits hgood
  · exact (access_read_sameBytes hok k addr _ hgood ((MemSys.coherent_iff _ _).mp hcoherent)).2

/-! ## A hit and a miss of a read (R137, R139, R142) -/

section
variable {c : Config} (hok : c.ok = true) {l : Level} {a : Word} {n : Nat} {m : MemSys} (h : m.good c)
include hok h

theorem access_read_hit {w : Nat} (hhit : m.hitsIn c l a w) : access c l.chain (.read a n) m =
    (((m.line l (c.indexOf l a) w).data.drop (c.offsetOf a)).take n,
      m.afterHit l (c.indexOf l a) w (m.line l (c.indexOf l a) w)) := by
  have htag := (MemSys.hitsIn_iff hok h).mp hhit
  rw [access_read_eq, locate_eq_afterHit hok h htag, MemSys.afterHit_line h (c.indexOf_lt hok l a) hhit.1]
  simp

theorem access_read_miss (hmiss : m.copyAt c l a = none) : access c l.chain (.read a n) m =
    (((pulledBy c l a m).1.drop (c.offsetOf a)).take n, missDone c l a m) := by
  rw [access_read_eq, locate_eq_missDone hmiss, missDone_line_same hok h]
  rfl

/-- What becomes of the other lines of a level that misses: the pull, and then the victim's going, leave them or drop them. -/
theorem missOut_line_other {j u : Nat} (hne : j ≠ c.indexOf l a ∨ u ≠ missWay c l a m) :
    (m.line l j u).keptOrDropped ((pulledBy c l a m).2.line l j u) ∧
    ((pulledBy c l a m).2.line l j u).keptOrDropped ((missOut c l a m).line l j u) ∧
    (((pulledBy c l a m).2.line l (c.indexOf l a) (missWay c l a m)).dirty = false →
      (missOut c l a m).line l j u = (pulledBy c l a m).2.line l j u) := by
  have hvictim : ∀ j u, (victim c l (c.indexOf l a) (pulledBy c l a m).2).2.line l j u = (pulledBy c l a m).2.line l j u :=
    fun j u => congrArg (CacheSet.way · u) (victim_setAt _ _ _ _ _ _)
  have hpulled := (access_below_keeps c l (.read (c.lineAddr a) c.lineSize) (m.afterMiss l (c.indexOf l a))).line j u
  rw [MemSys.afterMiss_line h (c.indexOf_lt hok l a)] at hpulled
  have hout := MemSys.takenOut_line_other c l (c.indexOf l a) (missWay c l a m) 1
    (victim c l (c.indexOf l a) (pulledBy c l a m).2).2 hne
  rw [hvictim] at hout
  refine ⟨hpulled, hout, fun hclean => ?_⟩
  obtain ⟨-, -, -, hlines⟩ := MemSys.takenOut_frame_of_clean (c := c) 1 (m := (victim c l (c.indexOf l a) (pulledBy c l a m).2).2)
    (l := l) (i := c.indexOf l a) (w := missWay c l a m) (by rw [hvictim]; exact hclean)
  exact (hlines j u hne).trans (hvictim j u)

end

/-- Where the victim on the set after the pull is clean, nothing but its level changes any more (R144). -/
theorem missOut_frame_of_clean {c : Config} {l : Level} {a : Word} {m : MemSys}
    (hclean : ((pulledBy c l a m).2.line l (c.indexOf l a) (missWay c l a m)).dirty = false) :
    (missOut c l a m).mem = (pulledBy c l a m).2.mem ∧ ∀ l' ≠ l, (missOut c l a m).level l' = (pulledBy c l a m).2.level l' := by
  obtain ⟨hmem, -, hlevels, -⟩ := MemSys.takenOut_frame_of_clean (c := c) 1 (m := (victim c l (c.indexOf l a) (pulledBy c l a m).2).2)
    (l := l) (i := c.indexOf l a) (w := missWay c l a m) (by rw [MemSys.line, victim_setAt]; exact hclean)
  exact ⟨hmem.trans (victim_mem _ _ _ _), fun l' hl => (hlevels l' hl).trans (victim_level _ _ _ _ _)⟩

/-- A level holds a line where it has a copy of an address of it (R154). -/
theorem MemSys.holds_lineAddr {c : Config} (hok : c.ok = true) (m : MemSys) (l : Level) (a : Word) :
    m.holds c l (c.lineAddr a) = true ↔ m.copyAt c l a ≠ none := by
  rw [MemSys.holds, c.indexOf_lineAddr hok, c.tagOf_lineAddr hok, List.any_eq_true, Ne, MemSys.copyAt, List.find?_eq_none]
  simp

/-- The state a line is installed in (R154). -/
theorem installState_eq {c : Config} (hok : c.ok = true) (l : Level) (a : Word) (m : MemSys) :
    ((∃ l' ≠ l, m.copyAt c l' a ≠ none) → installState c l (c.lineAddr a) m = .shared) ∧
    ((∀ l' ≠ l, m.copyAt c l' a = none) → installState c l (c.lineAddr a) m = .exclusive) := by
  have hany : (Level.all.any fun l' => l' != l && m.holds c l' (c.lineAddr a)) = true ↔ ∃ l' ≠ l, m.copyAt c l' a ≠ none := by
    rw [List.any_eq_true]
    simp only [Bool.and_eq_true, bne_iff_ne, MemSys.holds_lineAddr hok]
    exact exists_congr fun l' => and_iff_right (by cases l' <;> decide)
  refine ⟨fun hex => if_pos (hany.mpr hex), fun hall => if_neg fun htrue => ?_⟩
  obtain ⟨l', hl, hcopy⟩ := hany.mp htrue
  exact hcopy (hall l' hl)

theorem CacheLevel.missCounted.sameCounters {l : Level} {m x y : MemSys} {old : CacheLine}
    (h : (m.level l).missCounted old (x.level l)) (hs : x.sameCounters l y) : (m.level l).missCounted old (y.level l) := by
  obtain ⟨hhits, hmisses, hevictions, hwritebacks⟩ := h
  obtain ⟨hhits', hmisses', hevictions', hwritebacks'⟩ := hs
  exact ⟨hhits'.trans hhits, hmisses'.trans hmisses, hevictions'.trans hevictions, hwritebacks'.trans hwritebacks⟩

section
variable {c : Config} (hok : c.ok = true) {l : Level} {a : Word} {m : MemSys} (h : m.good c)
include hok h

/-- The line a miss installs, by what the other levels hold (R142, R154). -/
theorem missDone_installed :
    ((∃ l' ≠ l, (missDone c l a m).copyAt c l' a ≠ none) → (missDone c l a m).line l (c.indexOf l a) (missWay c l a m) =
      ⟨c.tagOf l a, true, false, .shared, (m.setAt l (c.indexOf l a)).accessCounter + 1, (pulledBy c l a m).1⟩) ∧
    ((∀ l' ≠ l, (missDone c l a m).copyAt c l' a = none) → (missDone c l a m).line l (c.indexOf l a) (missWay c l a m) =
      ⟨c.tagOf l a, true, false, .exclusive, (m.setAt l (c.indexOf l a)).accessCounter + 1, (pulledBy c l a m).1⟩) := by
  have hcopy : ∀ l' ≠ l, (missDone c l a m).copyAt c l' a = (missOut c l a m).copyAt c l' a := fun l' hl =>
    MemSys.copyAt_of_level_eq (MemSys.putLine_level_ne _ hl _ _ _) a
  have hstamp := missOut_accessCounter hok h (l := l) (a := a) (c.indexOf l a)
  rw [if_pos rfl] at hstamp
  obtain ⟨hshared, hexclusive⟩ := installState_eq hok l a (missOut c l a m)
  rw [missDone_line_same hok h, missLine, hstamp]
  refine ⟨fun ⟨l', hl, hheld⟩ => ?_, fun hnone => ?_⟩
  · rw [hshared ⟨l', hl, hcopy l' hl ▸ hheld⟩]
  · rw [hexclusive fun l' hl => hcopy l' hl ▸ hnone l' hl]

theorem missDone_line_other {j u : Nat} (hne : j ≠ c.indexOf l a ∨ u ≠ missWay c l a m) :
    (missDone c l a m).line l j u = (missOut c l a m).line l j u := by
  rw [missDone_line hok h, if_neg fun hand => hne.elim (· hand.2.1) (· hand.2.2)]

theorem missDone_accessCounter (j : Nat) : ((missDone c l a m).setAt l j).accessCounter =
    (m.setAt l j).accessCounter + if j = c.indexOf l a then 1 else 0 :=
  (MemSys.putLine_accessCounter _ _ _ _ _ _ _).trans (missOut_accessCounter hok h j)

end

/-- Settles O20: the first copy down the chain is answered; a hit is the restamp of its way, and a miss the installing of the
line pulled where the victim was. -/
theorem readsReturnFirstCopy : Obligations.ReadsReturnFirstCopy := by
  refine ⟨fun s addr size hok hgood hlegal => ⟨?_, ?_⟩, fun c l m a n hok h hlegal => ⟨fun w hhit => access_read_hit hok h hhit,
    fun hno => ?_⟩⟩
  · obtain ⟨m, q, hq, hcommand, hanswer⟩ := readCommand_answers hok hgood hlegal .data
    exact ⟨m, q, hq, congrArg Host.Outcome.next hcommand, hanswer⟩
  · obtain ⟨m, q, hq, hcommand, hanswer⟩ := readCommand_answers hok hgood hlegal .fetch
    exact ⟨m, q, hq, congrArg Host.Outcome.next hcommand, hanswer⟩
  · have hmiss := (MemSys.forall_not_hitsIn_iff hok h).mp hno
    have hdone := access_read_miss hok (n := n) h hmiss
    intro pulled v old out t
    have ht : t = missDone c l a m := congrArg Prod.snd hdone
    rw [ht]
    refine ⟨congrArg Prod.fst hdone, missWay_lt hok h,
      (missOut_counters c l a m).sameCounters (MemSys.sameCounters_putLine _ _ _ _ _ _),
      (missDone_accessCounter hok h _).trans (by rw [if_pos rfl]), (missDone_installed hok h).1, (missDone_installed hok h).2,
      fun hclean => ?_, rfl, rfl, fun l' hl => MemSys.putLine_level_ne _ hl _ _ _,
      fun j hj => (missDone_accessCounter hok h j).trans (by rw [if_neg hj]; rfl), fun j u hne => ?_⟩
    · obtain ⟨hmem, hlevels⟩ := missOut_frame_of_clean hclean
      exact ⟨hmem, fun l' hl => (MemSys.putLine_level_ne _ hl _ _ _).trans (hlevels l' hl)⟩
    · obtain ⟨hpull, hout, hclean⟩ := missOut_line_other hok h hne
      rw [missDone_line_other hok h hne]
      exact ⟨rfl, hpull, hout, hclean⟩

end Sys2Proof.Machine
end

section
/-! PROOFS. Memory (40_cache_ops.md): `C.WRITE` (R141), and what a write does to the counters, stamps and lines of every level
(R137 to R145). -/

namespace Sys2Proof.Machine

/-! ## The other levels of a write (R145) -/

/-- What a write leaves of another level: its counters, and its lines but for a Shared copy of the line written. -/
theorem coherencyInvalidate_other {c : Config} (hok : c.ok = true) {l l' : Level} (hl : l' ≠ l) (a : Word) {m x : MemSys}
    (hlevel : x.level l' = m.level l') :
    let t := coherencyInvalidate c l (c.lineAddr a) x
    (t.level l').hits = (m.level l').hits ∧ (t.level l').misses = (m.level l').misses ∧
    (t.level l').evictions = (m.level l').evictions ∧ (t.level l').writebacks = (m.level l').writebacks ∧
    ∀ j, (t.setAt l' j).accessCounter = (m.setAt l' j).accessCounter ∧
      ∀ u, t.line l' j u = (m.line l' j u).afterWriteElsewhere c l' a j := by
  have hset : ∀ j, x.setAt l' j = m.setAt l' j := fun j => by rw [MemSys.setAt, hlevel, MemSys.setAt]
  obtain ⟨hhits, hmisses, hevictions, hwritebacks⟩ := coherencyInvalidate_sameCounters c l' l (c.lineAddr a) x
  rw [hlevel] at hhits hmisses hevictions hwritebacks
  refine ⟨hhits, hmisses, hevictions, hwritebacks, fun j => ⟨?_, fun u => ?_⟩⟩
  · rw [(coherencyInvalidate_keptAt c l' l (c.lineAddr a) x j).1, hset]
  · have hline := coherencyAt_line hok a x l' j u
    rw [MemSys.line, MemSys.line, hset] at hline
    rw [MemSys.line, MemSys.setAt, coherencyInvalidate_level_ne c _ _ hl]
    exact hline

/-- A copy of an address is a line of a way, whatever the hierarchy. -/
theorem MemSys.exists_line_of_copyAt {c : Config} {m : MemSys} {l : Level} {a : Word} {ln : CacheLine}
    (h : m.copyAt c l a = some ln) : ∃ u, m.line l (c.indexOf l a) u = ln := by
  obtain ⟨u, hu, rfl⟩ := List.mem_iff_getElem.mp (List.mem_of_find?_eq_some h)
  exact ⟨u, by simp [MemSys.line, CacheSet.way, hu]⟩

/-- No other level holds a Shared copy of a line written (R141, R145). -/
theorem coherencyInvalidate_no_shared {c : Config} (hok : c.ok = true) {l l' : Level} (hl : l' ≠ l) (a : Word) (x : MemSys)
    {ln : CacheLine} (h : (coherencyInvalidate c l (c.lineAddr a) x).copyAt c l' a = some ln) : ln.state ≠ .shared := by
  obtain ⟨u, hu⟩ := MemSys.exists_line_of_copyAt h
  obtain ⟨-, -, -, -, hlines⟩ := coherencyInvalidate_other hok hl a (x := x) rfl
  obtain ⟨hvalid, htag⟩ := Bool.and_eq_true_iff.mp (MemSys.copyAt_hasTag h)
  rw [(hlines _).2 u] at hu
  subst hu
  intro hshared
  unfold CacheLine.afterWriteElsewhere at hvalid htag hshared
  split at hshared
  · cases hshared
  · rename_i hnot
    rw [if_neg hnot] at hvalid htag
    exact hnot ⟨rfl, hvalid, beq_iff_eq.mp htag, hshared⟩

/-! ## The command -/

theorem access_write_no_shared {c : Config} (hok : c.ok = true) {l l' : Level} (hl : l' ≠ l) (a : Word) (bs : List Byte)
    (m : MemSys) {ln : CacheLine} (h : (access c l.chain (.write a bs) m).2.copyAt c l' a = some ln) : ln.state ≠ .shared := by
  rw [access_write_snd] at h
  exact coherencyInvalidate_no_shared hok hl a _ h

/-- A write leaves its level with the line it found, written (R138). -/
theorem access_write_copyAt {c : Config} (hok : c.ok = true) {l : Level} (hl1i : l ≠ .l1i) {a : Word} {bs : List Byte}
    (hfits : c.offsetOf a + bs.length ≤ c.lineSize) {m : MemSys} (h : m.good c) {x : Word} (hx : c.lineAddr x = c.lineAddr a) :
    ∃ ln : CacheLine, ln.valid = true ∧ ln.data.length = c.lineSize ∧
      (access c l.chain (.write a bs) m).2.copyAt c l x = some (ln.written (c.offsetOf a) bs) := by
  have hlocated := locate_located hok (access_below_sound hok l) (access_below_keeps c l) a h
  have hstored := MemSys.stored_good hok hl1i hfits hlocated
  have htag := locate_hasTag hok (l := l) (a := a) h
  obtain ⟨hgood, hvalid⟩ := hlocated
  have hi := c.indexOf_lt hok l a
  refine ⟨_, hvalid, CacheLine.good_data (MemSys.line_good hgood hvalid), ?_⟩
  rw [MemSys.copyAt_lineAddr hok _ l hx, access_write_snd,
    MemSys.copyAt_of_level_eq (coherencyInvalidate_level_same c l (c.lineAddr a) _), MemSys.stored,
    MemSys.copyAt_putLine hgood hstored hi (MemSys.ways_length hgood hi ▸ MemSys.way_lt_of_valid hvalid)]
  exact if_pos ⟨rfl, htag⟩

theorem execCWrite_legal {s : State} {addr size : Word} {bytes : List Byte} (hlegal : s.cfg.legal addr size.toNat = true)
    (hlength : bytes.length = size.toNat) : exec (.cWrite addr size bytes) s =
      .next { s with sys := (access s.cfg Level.l1d.chain (.write addr bytes) s.sys).2, resp := replyOk } := by
  have hexec : exec (.cWrite addr size bytes) s = execCWrite addr size bytes s := rfl
  rw [hexec, execCWrite, if_pos hlegal, if_pos hlength, cacheWrite_legal _ _ _ _ (hlength ▸ hlegal)]
  rfl

/-- The data chain after a legal write: the bytes written, and every other as it was (R82, R141). -/
theorem cWrite_current {c : Config} (hok : c.ok = true) {addr : Word} {bytes : List Byte}
    (hfits : c.offsetOf addr + bytes.length ≤ c.lineSize) {m : MemSys} (h : m.good c) (hcoherent : m.coherent c) (a : Word) :
    (access c Level.l1d.chain (.write addr bytes) m).2.current c a =
      if (a - addr).toNat < bytes.length then bytes.getD (a - addr).toNat 0 else m.current c a :=
  ((access_exact hok .l1d).2 (by decide) (.write addr bytes) m hfits h ((MemSys.coherent_iff _ _).mp hcoherent)).2 a

/-! ## A hit and a miss of a write (R139, R142) -/

/-- The hierarchy after a miss, with the bytes of a write stored in the line installed. -/
def missStored (c : Config) (l : Level) (a : Word) (bs : List Byte) (m : MemSys) : MemSys :=
  (missDone c l a m).putLine l (c.indexOf l a) (missWay c l a m) ((missLine c l a m).written (c.offsetOf a) bs)

section
variable {c : Config} (hok : c.ok = true) {l : Level} {a : Word} {bs : List Byte} {m : MemSys} (h : m.good c)
include hok h

/-- A write that hits is the hit with its bytes stored in the line, and the coherency rule at the other levels. -/
theorem access_write_hit {w : Nat} (hhit : m.hitsIn c l a w) : (access c l.chain (.write a bs) m).2 =
    coherencyInvalidate c l (c.lineAddr a)
      (m.afterHit l (c.indexOf l a) w ((m.line l (c.indexOf l a) w).written (c.offsetOf a) bs)) := by
  have hi := c.indexOf_lt hok l a
  rw [access_write_snd, MemSys.stored, locate_eq_afterHit hok h ((MemSys.hitsIn_iff hok h).mp hhit)]
  simp only [MemSys.afterHit_line h hi hhit.1, and_self, if_true]
  exact congrArg _ (MemSys.putLine_afterHit (MemSys.sets_length h l ▸ hi) _ ((m.line l (c.indexOf l a) w).written _ bs))

theorem access_write_miss (hmiss : m.copyAt c l a = none) : (access c l.chain (.write a bs) m).2 =
    coherencyInvalidate c l (c.lineAddr a) (missStored c l a bs m) := by
  rw [access_write_snd, MemSys.stored, locate_eq_missDone hmiss, missDone_line_same hok h]
  rfl

theorem missStored_line (hmiss : m.copyAt c l a = none) (j u : Nat) : (missStored c l a bs m).line l j u =
    if j = c.indexOf l a ∧ u = missWay c l a m then (missLine c l a m).written (c.offsetOf a) bs
    else (missOut c l a m).line l j u := by
  have hi := c.indexOf_lt hok l a
  have hgood := (missDone_located hok h hmiss).1
  rw [missStored, MemSys.line_putLine (MemSys.sets_length hgood l ▸ hi) (MemSys.ways_length hgood hi ▸ missWay_lt hok h),
    missDone_line hok h]
  by_cases hand : j = c.indexOf l a ∧ u = missWay c l a m <;> simp [hand]

/-- What a write that misses leaves of its own level. -/
theorem access_write_miss_level (hmiss : m.copyAt c l a = none) :
    let t := (access c l.chain (.write a bs) m).2
    (m.level l).missCounted ((pulledBy c l a m).2.line l (c.indexOf l a) (missWay c l a m)) (t.level l) ∧
    (∀ j, (t.setAt l j).accessCounter = (m.setAt l j).accessCounter + if j = c.indexOf l a then 1 else 0) ∧
    ∀ j u, t.line l j u = if j = c.indexOf l a ∧ u = missWay c l a m then
      (missLine c l a m).written (c.offsetOf a) bs else (missOut c l a m).line l j u := by
  have hsame : ((access c l.chain (.write a bs) m).2).level l = (missStored c l a bs m).level l := by
    rw [access_write_miss hok h hmiss, coherencyInvalidate_level_same]
  have hset : ∀ j, ((access c l.chain (.write a bs) m).2).setAt l j = (missStored c l a bs m).setAt l j := fun j => by
    rw [MemSys.setAt, hsame, MemSys.setAt]
  refine ⟨?_, fun j => ?_, fun j u => ?_⟩
  · refine (missOut_counters c l a m).sameCounters ?_
    refine ((MemSys.sameCounters_putLine _ _ _ _ _ _).trans (MemSys.sameCounters_putLine _ _ _ _ _ _)).trans
      (MemSys.sameCounters_of_level_eq hsame)
  · rw [hset, missStored, MemSys.putLine_accessCounter, missDone_accessCounter hok h]
  · rw [MemSys.line, hset]
    exact missStored_line hok h hmiss j u

end

/-- Settles O21: the write changes the bytes it covers and no other; at its level it is a hit or a miss with the bytes stored
in the line, and at the others the coherency rule. -/
theorem writeSetsCurrent : Obligations.WriteSetsCurrent := by
  refine ⟨fun s addr size bytes hok hgood hcoherent hlegal hlength => ?_, fun c l m a bytes hok h hlegal =>
    ⟨fun l' hl ln => access_write_no_shared hok hl a bytes m, fun w hhit => ?_, fun hno => ?_⟩⟩
  · have hfits : s.cfg.offsetOf addr + bytes.length ≤ s.cfg.lineSize := hlength ▸ legal_fits hlegal
    refine ⟨execCWrite_legal hlegal hlength, fun k hk => ?_, fun a ha => ?_, ?_, fun l hl ln =>
      access_write_no_shared hok hl addr bytes s.sys⟩
    · have hsub : (addr + BitVec.ofNat 64 k - addr).toNat = k := by
        have := size.isLt
        rw [add_sub_cancel_left, BitVec.toNat_ofNat, Nat.mod_eq_of_lt (by omega)]
      rw [cWrite_current hok hfits hgood hcoherent, hsub, if_pos (hlength ▸ hk)]
    · rw [cWrite_current hok hfits hgood hcoherent, if_neg (hlength ▸ ha)]
    · obtain ⟨ln, hvalid, -, hcopy⟩ := access_write_copyAt hok (l := .l1d) (by decide) hfits hgood (x := addr) rfl
      exact ⟨_, hcopy, hvalid, rfl, rfl⟩
  · have hdone := access_write_hit hok (bs := bytes) h hhit
    intro ln
    rw [hdone]
    refine ⟨coherencyInvalidate_level_same c l _ _, (coherencyInvalidate_mem c l _ _).1, (coherencyInvalidate_mem c l _ _).2,
      fun l' hl => coherencyInvalidate_other hok hl a (m.afterHit_level_ne _ _ _ hl)⟩
  · have hmiss := (MemSys.forall_not_hitsIn_iff hok h).mp hno
    have hdone := access_write_miss hok (bs := bytes) h hmiss
    obtain ⟨hcounted, haccesses, hlines⟩ := access_write_miss_level hok (bs := bytes) h hmiss
    have hstamp := missOut_accessCounter hok h (l := l) (a := a) (c.indexOf l a)
    intro pulled v out
    have hmem := coherencyInvalidate_mem c l (c.lineAddr a) (missStored c l a bytes m)
    rw [← hdone] at hmem
    refine ⟨hcounted, (haccesses _).trans (by rw [if_pos rfl]), (hlines _ _).trans ?_, hmem.1, hmem.2, fun l' hl => ?_,
      fun j hj => (haccesses j).trans (by rw [if_neg hj]; rfl), fun j u hne => ?_⟩
    · rw [if_pos ⟨rfl, rfl⟩, missLine, hstamp, if_pos rfl]
      rfl
    · rw [hdone]
      exact coherencyInvalidate_other hok hl a ((MemSys.putLine_level_ne _ hl _ _ _).trans (MemSys.putLine_level_ne _ hl _ _ _))
    · obtain ⟨hpull, hout, hclean⟩ := missOut_line_other hok h hne
      have hline := (hlines j u).trans (if_neg fun hand => hne.elim (· hand.1) (· hand.2))
      rw [hline]
      exact ⟨rfl, hpull, hout, hclean⟩

end Sys2Proof.Machine
end

section
/-! PROOFS. Memory (40_cache_ops.md): the maintenance commands (R84, R146 to R148). -/

namespace Sys2Proof.Machine

/-! ## What a walk establishes (R147, R148) -/

/-- What each element of a list brings about, and the later ones do not undo, holds at the end of a fold. -/
theorem foldl_establishes {α σ : Type} {f : σ → α → σ} {P : σ → Prop} {Q : α → σ → Prop} : ∀ {xs : List α} {s : σ},
    xs.Pairwise (fun y x => ∀ s, P s → Q y s → Q y (f s x)) → (∀ x ∈ xs, ∀ s, P s → P (f s x) ∧ Q x (f s x)) → P s →
    P (xs.foldl f s) ∧ ∀ x ∈ xs, Q x (xs.foldl f s)
  | [], _, _, _, h => ⟨h, fun _ hx => by cases hx⟩
  | x :: xs, s, hstay, hstep, h => by
    obtain ⟨hhead, htail⟩ := List.pairwise_cons.mp hstay
    obtain ⟨hnext, hfirst⟩ := hstep x List.mem_cons_self s h
    have hstepTail := fun y hy => hstep y (List.mem_cons_of_mem x hy)
    obtain ⟨hend, hrest⟩ := foldl_establishes htail hstepTail hnext
    have hkept := List.foldlRecOn (motive := fun s => P s ∧ Q x s) xs f ⟨hnext, hfirst⟩ fun s hs y hy =>
      ⟨(hstepTail y hy s hs.1).1, hhead y hy s hs.1 hs.2⟩
    refine ⟨hend, fun y hy => ?_⟩
    rcases List.mem_cons.mp hy with rfl | hmem
    · exact hkept.2
    · exact hrest y hmem

/-- The walk over the ways of one set. -/
def walkSet (c : Config) (f : Level → Nat → Nat → MemSys → MemSys) (l : Level) (i : Nat) (m : MemSys) : MemSys :=
  (List.range (c.assoc.get l)).foldl (fun m w => f l i w m) m

/-- The walk over the sets of one level. -/
def walkLevel (c : Config) (f : Level → Nat → Nat → MemSys → MemSys) (l : Level) (m : MemSys) : MemSys :=
  (List.range (c.numSets l)).foldl (fun m i => walkSet c f l i m) m

theorem forEachWay_eq (c : Config) (f : Level → Nat → Nat → MemSys → MemSys) (m : MemSys) :
    forEachWay c f m = Level.all.foldl (fun m l => walkLevel c f l m) m := rfl

section
variable {c : Config} {f : Level → Nat → Nat → MemSys → MemSys} {P : MemSys → Prop} {Q : Level → Nat → Nat → MemSys → Prop}
  (hstep : ∀ l i w m, i < c.numSets l → w < c.assoc.get l → P m → P (f l i w m) ∧ Q l i w (f l i w m))
  (hstay : ∀ l i w m l' i' w', l' ∉ l.below → P m → Q l' i' w' m → Q l' i' w' (f l i w m))
include hstep hstay

theorem walkSet_stays {l : Level} {i : Nat} (hi : i < c.numSets l) {l' : Level} {i' w' : Nat} (hl : l' ∉ l.below) {m : MemSys}
    (h : P m) (hq : Q l' i' w' m) : Q l' i' w' (walkSet c f l i m) :=
  (List.foldlRecOn (motive := fun m => P m ∧ Q l' i' w' m) _ _ ⟨h, hq⟩ fun m hm w hw =>
    ⟨(hstep l i w m hi (List.mem_range.mp hw) hm.1).1, hstay l i w m l' i' w' hl hm.1 hm.2⟩).2

theorem walkSet_establishes {l : Level} {i : Nat} (hi : i < c.numSets l) {m : MemSys} (h : P m) :
    P (walkSet c f l i m) ∧ ∀ w < c.assoc.get l, Q l i w (walkSet c f l i m) := by
  obtain ⟨hend, hall⟩ := foldl_establishes (xs := List.range (c.assoc.get l)) (f := fun m w => f l i w m)
    (Q := fun w => Q l i w) (List.pairwise_of_forall_mem_list fun w _ w' _ s hs hq => hstay l i w' s l i w l.not_mem_below hs hq)
    (fun w hw s hs => hstep l i w s hi (List.mem_range.mp hw) hs) h
  exact ⟨hend, fun w hw => hall w (List.mem_range.mpr hw)⟩

theorem walkLevel_stays {l l' : Level} {i' w' : Nat} (hl : l' ∉ l.below) {m : MemSys} (h : P m) (hq : Q l' i' w' m) :
    Q l' i' w' (walkLevel c f l m) :=
  (List.foldlRecOn (motive := fun m => P m ∧ Q l' i' w' m) _ _ ⟨h, hq⟩ fun _ hm _ hi =>
    ⟨(walkSet_establishes hstep hstay (List.mem_range.mp hi) hm.1).1,
      walkSet_stays hstep hstay (List.mem_range.mp hi) hl hm.1 hm.2⟩).2

theorem walkLevel_establishes (l : Level) {m : MemSys} (h : P m) :
    P (walkLevel c f l m) ∧ ∀ i < c.numSets l, ∀ w < c.assoc.get l, Q l i w (walkLevel c f l m) := by
  obtain ⟨hend, hall⟩ := foldl_establishes (xs := List.range (c.numSets l)) (f := fun m i => walkSet c f l i m)
    (Q := fun i m => ∀ w < c.assoc.get l, Q l i w m)
    (List.pairwise_of_forall_mem_list fun i _ i' hi' s hs hq w hw =>
      walkSet_stays hstep hstay (List.mem_range.mp hi') l.not_mem_below hs (hq w hw))
    (fun i hi s hs => walkSet_establishes hstep hstay (List.mem_range.mp hi) hs) h
  exact ⟨hend, fun i hi => hall i (List.mem_range.mpr hi)⟩

/-- What is done at each way, and is undone by no way of the levels that follow or of its own, holds at the end of a walk. -/
theorem forEachWay_establishes {m : MemSys} (h : P m) :
    P (forEachWay c f m) ∧ ∀ l, ∀ i < c.numSets l, ∀ w < c.assoc.get l, Q l i w (forEachWay c f m) := by
  rw [forEachWay_eq]
  have horder : Level.all.Pairwise fun l' l => l' ∉ l.below := by decide
  obtain ⟨hend, hall⟩ := foldl_establishes (xs := Level.all) (f := fun m l => walkLevel c f l m)
    (Q := fun l m => ∀ i < c.numSets l, ∀ w < c.assoc.get l, Q l i w m)
    (horder.imp fun hl s hs hq i hi w hw => walkLevel_stays hstep hstay hl hs (hq i hi w hw))
    (fun l _ s hs => walkLevel_establishes hstep hstay l hs) h
  exact ⟨hend, fun l => hall l (by cases l <;> decide)⟩

end

/-! ## What a way taken out cannot undo -/

/-- A line of the same level, or of one not below it, that is valid once a way is taken out is as it was. -/
theorem MemSys.takenOut_line_of_valid (c : Config) {l l' : Level} (hbelow : l' ∉ l.below) {i w n j u : Nat} {m : MemSys}
    (hvalid : ((m.takenOut c l i w n).line l' j u).valid = true) :
    (m.takenOut c l i w n).line l' j u = m.line l' j u := by
  by_cases hl : l' = l
  · subst hl
    by_cases hand : j = i ∧ u = w
    · obtain ⟨rfl, rfl⟩ := hand
      rw [MemSys.takenOut_line_invalid] at hvalid
      cases hvalid
    · exact (MemSys.takenOut_line_other c l' i w n m (not_and_or.mp hand)).eq_of_valid hvalid
  · exact ((MemSys.takenOut_keptAt_ne c hl hbelow i w n m).line j u).eq_of_valid hvalid

/-- The walk of the two maintenance commands: each way whose line a condition names is taken out (R147, R148). -/
def takeOutWhere (c : Config) (cond : Level → Nat → CacheLine → Prop) [∀ l i ln, Decidable (cond l i ln)] (m : MemSys) :
    MemSys :=
  forEachWay c (fun l i w x => if (x.line l i w).valid = true ∧ cond l i (x.line l i w) then x.takenOut c l i w 0 else x) m

section
variable {c : Config} (hok : c.ok = true) (cond : Level → Nat → CacheLine → Prop) [∀ l i ln, Decidable (cond l i ln)] {m : MemSys}
  (h : m.good c) (hcoherent : m.coherent c)
include hok h hcoherent

/-- The walk keeps what the data chain holds, and leaves no valid line that the condition names. -/
theorem takeOutWhere_establishes : m.sameData c (takeOutWhere c cond m) ∧
    ∀ l, ∀ i < c.numSets l, ∀ w < c.assoc.get l, ((takeOutWhere c cond m).line l i w).valid = true →
      ¬ cond l i ((takeOutWhere c cond m).line l i w) := by
  refine forEachWay_establishes (P := m.sameData c)
    (Q := fun l i w x => (x.line l i w).valid = true → ¬ cond l i (x.line l i w)) (fun l i w x _ _ hx => ?_)
    (fun l i w x l' i' w' hbelow hx hq => ?_) ⟨h, MemSys.sameBytes_refl ((MemSys.coherent_iff _ _).mp hcoherent)⟩
  · split
    · refine ⟨hx.takenOut hok l i w 0, fun hvalid => ?_⟩
      rw [MemSys.takenOut_line_invalid] at hvalid
      cases hvalid
    · rename_i hnot
      exact ⟨hx, fun hvalid hcond => hnot ⟨hvalid, hcond⟩⟩
  · split
    · intro hvalid
      have hsame := MemSys.takenOut_line_of_valid c hbelow hvalid
      rw [hsame] at hvalid ⊢
      exact hq hvalid
    · exact hq

end

/-- Where the data chain has no copy of an address its current value is main memory's (R82, R84). -/
theorem MemSys.current_of_no_copy {c : Config} {m : MemSys} {a : Word} (h : ∀ l, m.copyAt c l a = none) :
    m.current c a = m.mem.readByte a.toNat := by
  rw [MemSys.current, Level.chain, MemSys.byteFrom_of_none _ (h .l1d), MemSys.byteFrom_of_none _ (h .l2),
    MemSys.byteFrom_of_none _ (h .l3), MemSys.byteFrom]

/-! ## `C.FLUSHALL` (R147) -/

theorem flushAll_eq_takeOutWhere (c : Config) (m : MemSys) : flushAll c m = takeOutWhere c (fun _ _ _ => True) m := by
  have hwalk : (fun l i w (x : MemSys) => writebackInvalidate c (access c l.below) l i w x) =
      fun l i w x => if (x.line l i w).valid = true ∧ True then x.takenOut c l i w 0 else x := by
    funext l i w x
    rw [writebackInvalidate_eq_takenOut]
    split
    · rfl
    · rename_i hnot
      exact MemSys.takenOut_invalid 0 (by simpa using hnot)
  rw [flushAll, hwalk, takeOutWhere]

/-- Every line of a good hierarchy is the line of a way (R23, R26). -/
theorem MemSys.noneValid_of_lines {c : Config} {m : MemSys} (h : m.good c)
    (hlines : ∀ l, ∀ i < c.numSets l, ∀ w < c.assoc.get l, (m.line l i w).valid = false) : m.noneValid := by
  intro l st hst ln hln
  obtain ⟨i, hi, rfl⟩ := List.mem_iff_getElem.mp hst
  obtain ⟨w, hw, rfl⟩ := List.mem_iff_getElem.mp hln
  have hset : m.setAt l i = (m.level l).sets[i] := by simp [MemSys.setAt, CacheLevel.setAt, hi]
  have hi' := MemSys.sets_length h l ▸ hi
  have hlt : w < c.assoc.get l := by
    rw [← MemSys.ways_length h hi', hset]
    exact hw
  have hline : m.line l i w = (m.level l).sets[i].ways[w] := by
    rw [MemSys.line, hset]
    simp [CacheSet.way, hw]
  exact hline ▸ hlines l i hi' w hlt

theorem MemSys.noneValid.copyAt {m : MemSys} (h : m.noneValid) (c : Config) (l : Level) (a : Word) : m.copyAt c l a = none := by
  refine Option.eq_none_iff_forall_ne_some.mpr fun ln hcopy => ?_
  obtain ⟨hvalid, st, hst, hln⟩ := MemSys.copyAt_mem hcopy
  rw [h l st hst ln hln] at hvalid
  cases hvalid

theorem flushAll_noneValid {c : Config} (hok : c.ok = true) {m : MemSys} (h : m.good c) (hcoherent : m.coherent c) :
    (flushAll c m).noneValid ∧ ∀ a : Word, (flushAll c m).mem.readByte a.toNat = m.current c a := by
  obtain ⟨⟨hgood, -, hbytes⟩, hlines⟩ := takeOutWhere_establishes hok (fun _ _ _ => True) h hcoherent
  rw [← flushAll_eq_takeOutWhere] at hgood hbytes hlines
  have hnone : (flushAll c m).noneValid := MemSys.noneValid_of_lines hgood fun l i hi w hw => by
    simpa using hlines l i hi w hw
  exact ⟨hnone, fun a => (MemSys.current_of_no_copy fun l => hnone.copyAt c l a).symm.trans (hbytes a)⟩

/-! ## One way (R146) -/

/-- What a level writes below it the chain below answers, whatever that chain held (R138, R146). -/
theorem access_write_bytes {c : Config} (hok : c.ok = true) (l : Level) : ∀ (a : Word) (bs : List Byte) (m : MemSys),
    c.offsetOf a + bs.length ≤ c.lineSize → m.good c → ∀ x, (x - a).toNat < bs.length →
      (access c l.below (.write a bs) m).2.byteFrom c l.below x = bs.getD (x - a).toNat 0 := by
  refine (Level.chain_induction (P := fun ls => .l1i ∉ ls → ∀ (a : Word) (bs : List Byte) (m : MemSys),
    c.offsetOf a + bs.length ≤ c.lineSize → m.good c → ∀ x, (x - a).toNat < bs.length →
      (access c ls (.write a bs) m).2.byteFrom c ls x = bs.getD (x - a).toNat 0) ?_ ?_ l).1 (by cases l <;> decide)
  · intro _ a bs m hfits h x hx
    have hlength : bs.length ≤ 2 ^ 64 := ((Nat.le_add_left _ _).trans hfits).trans (c.lineSize_lt hok).le
    exact (Memory.readByte_writeBytes bs h.1 a x hlength).trans (if_pos hx)
  · intro l _ hl a bs m hfits h x hx
    rw [Level.chain_eq, List.mem_cons, not_or] at hl
    obtain ⟨hline, hle, hlt⟩ := (c.sub_lt_iff hok hfits x).mp hx
    obtain ⟨ln, -, hdata, hcopy⟩ := access_write_copyAt hok (Ne.symm hl.1) hfits h hline
    rw [Level.chain_eq] at hcopy ⊢
    rw [MemSys.byteFrom_of_some _ hcopy, CacheLine.written, storeAt_getD (hdata ▸ hfits), if_pos ⟨hle, hlt⟩,
      c.toNat_sub hline hle]

/-- A dirty line taken out is what the levels below answer (R146). -/
theorem MemSys.takenOut_byteFrom_below {c : Config} (hok : c.ok = true) {l : Level} {i w : Nat} (n : Nat) {m : MemSys}
    (h : m.good c) (hvalid : (m.line l i w).valid = true) (hdirty : (m.line l i w).dirty = true) {k : Nat}
    (hk : k < c.lineSize) : (m.takenOut c l i w n).byteFrom c l.below (c.compose l (m.line l i w).tag i k) =
      (m.line l i w).data.getD k 0 := by
  have hi := MemSys.sets_length h l ▸ MemSys.set_lt_of_valid hvalid
  have hline := MemSys.line_good h hvalid
  have hdata := CacheLine.good_data hline
  obtain ⟨-, ⟨-, htag⟩, -⟩ := hline
  have hsub : (c.compose l (m.line l i w).tag i k - c.compose l (m.line l i w).tag i 0).toNat = k := by
    have hfirst := c.toNat_compose hok htag hi (c.lineSize_pos hok)
    have hbyte := c.toNat_compose hok htag hi hk
    rw [BitVec.toNat_sub_of_le (BitVec.le_def.mpr (by omega))]
    omega
  rw [MemSys.takenOut_dirty n hvalid hdirty, access_write_bytes hok l _ _ _ _ (MemSys.dropWay_good h hvalid n), hsub]
  · rw [hsub, hdata]
    exact hk
  · simp [c.offsetOf_compose hok, hdata]

/-- Settles O23: the walk empties every level and moves no current value; one way is a way taken out with no eviction counted. -/
theorem flushAllWritesBack : Obligations.FlushAllWritesBack := by
  refine ⟨fun s hok hgood hcoherent => ⟨rfl, flushAll_noneValid hok hgood hcoherent⟩, fun c l i w m hok h _ _ => ?_⟩
  rw [writebackInvalidate_eq_takenOut]
  refine ⟨MemSys.takenOut_invalid 0, fun hvalid => ?_⟩
  obtain ⟨hhits, hmisses, hevictions, hwritebacks⟩ := MemSys.takenOut_counters c l i w 0 m
  rw [hvalid] at hevictions hwritebacks
  refine ⟨MemSys.takenOut_line_same 0 hvalid, hhits, hmisses, hevictions, hwritebacks, MemSys.takenOut_accessCounter c l i w 0 m,
    fun hdirty k hk => MemSys.takenOut_byteFrom_below hok 0 h hvalid hdirty hk, fun hclean => ?_, rfl, fun j u hne =>
    ⟨MemSys.takenOut_line_other c l i w 0 m hne, fun hclean => ?_⟩⟩
  · obtain ⟨hmem, hvictims, hlevels, -⟩ := MemSys.takenOut_frame_of_clean (c := c) 0 hclean
    exact ⟨hmem, hvictims, hlevels⟩
  · obtain ⟨-, -, -, hlines⟩ := MemSys.takenOut_frame_of_clean (c := c) 0 hclean
    exact hlines j u hne

end Sys2Proof.Machine
end

section
/-! PROOFS. Memory (40_cache_ops.md): `C.INVRANGE` (R148). -/

namespace Sys2Proof.Machine

/-- The line address of a line of a set lies in a range (R132, R148). -/
abbrev lineWithin (c : Config) (lo hi : Word) (l : Level) (i : Nat) (ln : CacheLine) : Prop :=
  lo ≤ c.compose l ln.tag i 0 ∧ c.compose l ln.tag i 0 ≤ hi

theorem invalidateLines_eq_takeOutWhere (c : Config) (lo hi : Word) (m : MemSys) :
    invalidateLines c lo hi m = takeOutWhere c (lineWithin c lo hi) m := by
  have hwalk : (fun l i w (x : MemSys) => if (x.line l i w).valid && inRange c lo hi l i w x then
      writebackInvalidate c (access c l.below) l i w x else x) =
      fun l i w x => if (x.line l i w).valid = true ∧ lineWithin c lo hi l i (x.line l i w) then x.takenOut c l i w 0
        else x := by
    funext l i w x
    simp only [writebackInvalidate_eq_takenOut, inRange, Bool.and_eq_true, decide_eq_true_eq]
  rw [invalidateLines, hwalk, takeOutWhere]

theorem execCInvrange_legal {s : State} {addr len : Word} (hne : len ≠ 0) (hend : addr.toNat + len.toNat ≤ 2 ^ 64) :
    exec (.cInvrange addr len) s = .next { s with
      sys := invalidateLines s.cfg (s.cfg.lineAddr addr) (s.cfg.lineAddr (addr + len - 1)) s.sys, resp := replyOk } := by
  have hexec : exec (.cInvrange addr len) s = execCInvrange addr len s := rfl
  rw [hexec, execCInvrange, if_neg hne, if_neg (Nat.not_lt.mpr hend)]
  rfl

/-- The line address of a copy of an address is the address's (R132). -/
theorem MemSys.compose_of_hasTag {c : Config} (hok : c.ok = true) {l : Level} {a : Word} {ln : CacheLine}
    (h : ln.hasTag (c.tagOf l a) = true) : c.compose l ln.tag (c.indexOf l a) 0 = c.lineAddr a := by
  rw [beq_iff_eq.mp (Bool.and_eq_true_iff.mp h).2]
  exact ((c.lineAddr_eq_compose_iff hok (c.tagOf_lt hok l a) (c.indexOf_lt hok l a) a).mpr ⟨rfl, rfl⟩).symm

section
variable {c : Config} (hok : c.ok = true) {lo hi : Word} {m : MemSys} (h : m.good c) (hcoherent : m.coherent c)
include hok h hcoherent

/-- After the walk no level has a copy of an address whose line is in the range, and main memory has its value (R84, R148). -/
theorem invalidateLines_inside {a : Word} (hlo : lo ≤ c.lineAddr a) (hhi : c.lineAddr a ≤ hi) :
    (invalidateLines c lo hi m).mem.readByte a.toNat = m.current c a ∧ ∀ l, (invalidateLines c lo hi m).copyAt c l a = none := by
  obtain ⟨⟨hgood, -, hbytes⟩, hlines⟩ := takeOutWhere_establishes hok (lineWithin c lo hi) h hcoherent
  rw [← invalidateLines_eq_takeOutWhere] at hgood hbytes hlines
  have hnone : ∀ l, (invalidateLines c lo hi m).copyAt c l a = none := fun l => by
    refine (MemSys.copyAt_eq_none_iff hgood).mpr fun w => Bool.eq_false_iff.mpr fun htag => ?_
    have hvalid := (Bool.and_eq_true_iff.mp htag).1
    have hindex := c.indexOf_lt hok l a
    refine hlines l _ hindex w (MemSys.ways_length hgood hindex ▸ MemSys.way_lt_of_valid hvalid) hvalid ?_
    rw [lineWithin, MemSys.compose_of_hasTag hok htag]
    exact ⟨hlo, hhi⟩
  exact ⟨(MemSys.current_of_no_copy hnone).symm.trans (hbytes a), hnone⟩

theorem invalidateLines_current (a : Word) : (invalidateLines c lo hi m).current c a = m.current c a := by
  obtain ⟨⟨-, -, hbytes⟩, -⟩ := takeOutWhere_establishes hok (lineWithin c lo hi) h hcoherent
  rw [← invalidateLines_eq_takeOutWhere] at hbytes
  exact hbytes a

end

/-! ## Clean lines in the range (R148) -/

/-- A valid line of a hierarchy whose line address is in the range. -/
def MemSys.inside (c : Config) (lo hi : Word) (m : MemSys) (l : Level) (i w : Nat) : Prop :=
  (m.line l i w).valid = true ∧ lineWithin c lo hi l i (m.line l i w)

/-- Lines in the range may be gone, with their tags, stamps and data as they were, and nothing else is changed. -/
def MemSys.rangeDropped (c : Config) (lo hi : Word) (m m' : MemSys) : Prop :=
  m'.mem = m.mem ∧ m'.victims = m.victims ∧
  ∀ l, m.sameCounters l m' ∧ ∀ i, (m'.setAt l i).accessCounter = (m.setAt l i).accessCounter ∧
    ∀ w, m'.line l i w = m.line l i w ∨
      m.inside c lo hi l i w ∧ m'.line l i w = { m.line l i w with valid := false, state := .invalid }

theorem MemSys.rangeDropped_refl (c : Config) (lo hi : Word) (m : MemSys) : m.rangeDropped c lo hi m :=
  ⟨rfl, rfl, fun _ => ⟨MemSys.sameCounters_of_level_eq rfl, fun _ => ⟨rfl, fun _ => .inl rfl⟩⟩⟩

/-- A clean line of the range taken out is one more line of the range gone. -/
theorem MemSys.rangeDropped.takenOut {c : Config} {lo hi : Word} {m m' : MemSys} (h : m.rangeDropped c lo hi m')
    (hclean : ∀ l i w, m.inside c lo hi l i w → (m.line l i w).dirty = false) {l : Level} {i w : Nat}
    (hin : m'.inside c lo hi l i w) : m.rangeDropped c lo hi (m'.takenOut c l i w 0) := by
  obtain ⟨hmem, hvictims, hlevels⟩ := h
  obtain ⟨hvalid, hrange⟩ := hin
  have hline : m'.line l i w = m.line l i w := by
    refine (((hlevels l).2 i).2 w).resolve_right fun ⟨_, hgone⟩ => ?_
    rw [hgone] at hvalid
    cases hvalid
  have hinside : m.inside c lo hi l i w := ⟨hline ▸ hvalid, hline ▸ hrange⟩
  have hdirty : (m'.line l i w).dirty = false := hline ▸ hclean l i w hinside
  obtain ⟨hhits, hmisses, hevictions, hwritebacks⟩ := m'.dropWay_level l i w 0
  rw [MemSys.takenOut_clean 0 hvalid hdirty]
  refine ⟨hmem, hvictims, fun l' => ⟨(hlevels l').1.trans ?_, fun j => ⟨?_, fun u => ?_⟩⟩⟩
  · by_cases hl : l' = l
    · subst hl
      exact ⟨hhits, hmisses, hevictions, by simpa [hdirty] using hwritebacks⟩
    · exact MemSys.sameCounters_of_level_eq (MemSys.dropWay_level_ne _ _ _ _ hl)
  · rw [MemSys.dropWay_setAt, MemSys.putLine_accessCounter]
    exact ((hlevels l').2 j).1
  · rw [MemSys.dropWay_line hvalid]
    split
    · rename_i hand
      obtain ⟨rfl, rfl, rfl⟩ := hand
      refine .inr ⟨hinside, ?_⟩
      rw [CacheLine.invalidated, hline, ← hclean _ _ _ hinside]
    · exact ((hlevels l').2 j).2 u

/-- Where the lines of the range are clean the walk drops them and changes nothing else (R148). -/
theorem invalidateLines_rangeDropped {c : Config} {lo hi : Word} {m : MemSys}
    (hclean : ∀ l i w, m.inside c lo hi l i w → (m.line l i w).dirty = false) :
    m.rangeDropped c lo hi (invalidateLines c lo hi m) := by
  rw [invalidateLines_eq_takeOutWhere]
  refine forEachWay_keeps (fun l i w x _ _ hx => ?_) (MemSys.rangeDropped_refl c lo hi m)
  split
  · exact hx.takenOut hclean ‹_›
  · exact hx

/-- Every line of the range is gone after the walk, and no other. -/
theorem invalidateLines_line {c : Config} (hok : c.ok = true) {lo hi : Word} {m : MemSys} (h : m.good c)
    (hcoherent : m.coherent c) (hclean : ∀ l i w, m.inside c lo hi l i w → (m.line l i w).dirty = false) (l : Level)
    (i w : Nat) :
    (m.inside c lo hi l i w →
      (invalidateLines c lo hi m).line l i w = { m.line l i w with valid := false, state := .invalid }) ∧
    (¬ m.inside c lo hi l i w → (invalidateLines c lo hi m).line l i w = m.line l i w) := by
  obtain ⟨-, -, hlevels⟩ := invalidateLines_rangeDropped hclean
  have hcases := ((hlevels l).2 i).2 w
  refine ⟨fun hin => ?_, fun hnot => hcases.resolve_right fun hgone => hnot hgone.1⟩
  rcases hcases with hsame | ⟨-, hgone⟩
  · obtain ⟨-, hlines⟩ := takeOutWhere_establishes hok (lineWithin c lo hi) h hcoherent
    rw [← invalidateLines_eq_takeOutWhere] at hlines
    obtain ⟨hvalid, hrange⟩ := hin
    have hi := MemSys.sets_length h l ▸ MemSys.set_lt_of_valid hvalid
    have hleft := hlines l i hi w (MemSys.ways_length h hi ▸ MemSys.way_lt_of_valid hvalid)
    rw [hsame] at hleft
    exact absurd hrange (hleft hvalid)
  · exact hgone

/-- Settles O25: the walk takes out the lines of the range and moves no current value; clean lines just go. -/
theorem invalidateRange : Obligations.InvalidateRange := by
  refine fun s addr len => ⟨fun hzero => ?_, fun hne hpast => ?_, fun hne hend hok hgood hcoherent => ?_⟩
  · have hexec : exec (.cInvrange addr len) s = execCInvrange addr len s := rfl
    rw [hexec, execCInvrange, if_pos hzero]
    rfl
  · have hexec : exec (.cInvrange addr len) s = execCInvrange addr len s := rfl
    rw [hexec, execCInvrange, if_neg hne, if_pos hpast]
    rfl
  · intro lo hi m inside
    have hm : m = invalidateLines s.cfg lo hi s.sys := (invalidateLines_eq_takeOutWhere s.cfg lo hi s.sys).symm
    rw [hm]
    refine ⟨execCInvrange_legal hne hend, fun a => invalidateLines_inside hok hgood hcoherent,
      invalidateLines_current hok hgood hcoherent, fun hclean => ?_⟩
    obtain ⟨hmem, hvictims, hlevels⟩ := invalidateLines_rangeDropped hclean
    refine ⟨hmem, hvictims, fun l => ?_⟩
    obtain ⟨⟨hhits, hmisses, hevictions, hwritebacks⟩, hsets⟩ := hlevels l
    exact ⟨hhits, hmisses, hevictions, hwritebacks, fun i => ⟨(hsets i).1, invalidateLines_line hok hgood hcoherent hclean l i⟩⟩

end Sys2Proof.Machine
end

section
/-! PROOFS. Memory (40_cache_ops.md, 44_execute.md): the one data access of a load or store (R71, R221, R242 (b) and (c)). -/

namespace Sys2Proof.Machine

/-! ## Data accesses by either path (R71) -/

theorem fitBytes_length (n : Nat) (bs : List Byte) : (fitBytes n bs).length = n := by simp [fitBytes]

theorem toLE_length : ∀ (n : Nat) (v : Word), (toLE v n).length = n
  | 0, _ => rfl
  | n + 1, v => by rw [toLE, List.length_cons, toLE_length n]

theorem AccessSize.bytes_le (z : AccessSize) : z.bytes ≤ 8 := by cases z <;> decide

section
variable {s : State} {a : Word}

theorem State.dataRead_of_cacheRead {n : Nat} {b : List Byte} {m : MemSys} (hpath : s.cfg.dataPath = .hierarchy)
    (h : cacheRead s.cfg .data a n s.sys = some (b, m)) : s.dataRead a n = (some b, { s with sys := m }) := by
  simp only [State.dataRead, hpath, h]

theorem State.dataRead_refused {n : Nat} (hpath : s.cfg.dataPath = .hierarchy) (hlegal : s.cfg.legal a n = false) :
    s.dataRead a n = (none, s) := by
  simp only [State.dataRead, hpath, cacheRead_illegal _ _ _ _ _ hlegal]

theorem State.dataRead_memory (n : Nat) (hpath : s.cfg.dataPath = .memory) :
    s.dataRead a n = (some (s.sys.mem.readBytes a n), s) := by simp only [State.dataRead, hpath]

theorem State.dataWrite_of_cacheWrite {bs : List Byte} {m : MemSys} (hpath : s.cfg.dataPath = .hierarchy)
    (h : cacheWrite s.cfg a bs s.sys = some m) : s.dataWrite a bs = { s with sys := m } := by
  simp only [State.dataWrite, hpath, h]

theorem State.dataWrite_memory (bs : List Byte) (hpath : s.cfg.dataPath = .memory) :
    s.dataWrite a bs = { s with sys := { s.sys with mem := s.sys.mem.writeBytes a bs } } := by
  simp only [State.dataWrite, hpath]

end

/-! ## The unit's one access (R242 (b), (c)) -/

/-- A unit that may make no access of its own touches neither caches nor main memory. -/
theorem unitLoop_sys (r : InstrRecord) : ∀ (fuel : Nat) (answers : List (Option (List Byte))) (n : Nat) (s : State),
    (unitLoop r false fuel answers n s).2.sys = s.sys
  | 0, _, _, _ => rfl
  | fuel + 1, answers, n, s => by
    unfold unitLoop
    split
    · rw [unitLoop_sys r fuel]
      simp
    · rw [unitLoop_sys r fuel]
      simp
    all_goals rfl

/-- How a completed load ends: the access made, its bytes carried where it had any, and the destination as it stood. -/
def LoadEnds (r : InstrRecord) (s : State) (res : ExecResult) (t : State) : Prop :=
  let got := s.dataRead (s.effAddr r) r.accessSize.bytes
  t.sys = got.2.sys ∧ (∀ b, got.1 = some b → res.loadValue = leWord b) ∧
  (s.cfg.floatDestOf r.opcode = true → t.floats[r.ra.toNat]'(r.ra.isLt) = s.floats[r.ra.toNat]'(r.ra.isLt)) ∧
  (s.cfg.floatDestOf r.opcode = false → t.ints[r.ra.toNat]'(r.ra.isLt) = s.ints[r.ra.toNat]'(r.ra.isLt))

/-- How a completed store ends: the access made, of some bytes of its size. -/
def StoreEnds (r : InstrRecord) (s t : State) : Prop :=
  ∃ b : List Byte, b.length = r.accessSize.bytes ∧ t.sys = (s.dataWrite (s.effAddr r) b).sys

theorem collaborate_load {r : InstrRecord} {s t : State} {res : ExecResult} (hload : r.isLoad = true)
    (h : collaborate r s = (.done res, t)) : LoadEnds r s res t := by
  rw [collaborate, if_pos hload] at h
  split at h
  · cases h
  · have hsys := unitLoop_sys r (Config.unitActionBound r) [(s.dataRead (s.effAddr r) r.accessSize.bytes).1] 1
      (s.dataRead (s.effAddr r) r.accessSize.bytes).2
    dsimp only at h
    generalize unitLoop r false _ _ 1 _ = out at h hsys
    obtain ⟨_ | _, u⟩ := out <;> cases h
    have hdest := s.keepDest_dest r u
    obtain ⟨-, hkept, -⟩ := s.keepDest_frame r u
    refine ⟨?_, fun b hb => ?_, fun hfloat => ?_, fun hfloat => ?_⟩
    · rw [hkept, hsys]
    · rw [hb]
      rfl
    · rw [if_pos hfloat] at hdest
      exact hdest.1
    · rw [if_neg (by simp [hfloat])] at hdest
      exact hdest.1

theorem collaborate_store {r : InstrRecord} {s t : State} {res : ExecResult} (hload : r.isLoad = false)
    (hstore : r.isStore = true) (h : collaborate r s = (.done res, t)) : StoreEnds r s t := by
  have hloop := congrArg (fun x : UnitOutcome × State => x.2.sys) (collaborate_done_store r s t res hload hstore h)
  exact ⟨_, fitBytes_length _ _, hloop.trans (unitLoop_sys r _ _ _ _)⟩

theorem xu1Load_ends {r : InstrRecord} {s t : State} {res : ExecResult} (hload : r.isLoad = true) (hsize : r.accessSize = .b8)
    (h : xu1Load r s = (.done res, t)) : LoadEnds r s res t := by
  have hframe := s.dataRead_frame (s.effAddr r) 8
  rw [xu1Load] at h
  split at h
  · rename_i b s' hread
    cases h
    rw [hread] at hframe
    obtain ⟨-, hints, hfloats, -⟩ := hframe
    replace hints : t.ints = s.ints := hints
    replace hfloats : t.floats = s.floats := hfloats
    rw [LoadEnds, hsize, AccessSize.bytes, hread]
    refine ⟨rfl, fun b' hb => ?_, fun _ => by simp only [hfloats], fun _ => by simp only [hints]⟩
    cases hb
    rfl
  · exact collaborate_load hload h

theorem xu1Store_ends {r : InstrRecord} {s t : State} {res : ExecResult} (hload : r.isLoad = false) (hstore : r.isStore = true)
    (hsize : r.accessSize = .b8) (h : xu1Store r s = (.done res, t)) : StoreEnds r s t := by
  rw [xu1Store] at h
  split at h
  · exact collaborate_store hload hstore h
  · cases h
    exact ⟨_, (toLE_length 8 _).trans (congrArg AccessSize.bytes hsize).symm, rfl⟩

/-- Either unit on a Memory-class record that is not the no-op word. -/
theorem execUnit_memory {r : InstrRecord} (s : State) (hclass : r.cls = .memory) (hnop : r.raw ≠ nopCode) :
    execUnit r s = collaborate r s ∨ (r.opcode = 0x29 ∧ execUnit r s = xu1Load r s) ∨
      (r.opcode = 0x2D ∧ execUnit r s = xu1Store r s) := by
  rw [execUnit, if_neg hnop]
  split
  · exact .inl rfl
  · simp only [xu1, hclass]
    split
    · exact .inr (.inl ⟨‹_›, rfl⟩)
    · split
      · exact .inr (.inr ⟨‹_›, rfl⟩)
      · exact .inl rfl

section
variable {r : InstrRecord} {s t : State} {res : ExecResult} (hclass : r.cls = .memory) (hnop : r.raw ≠ nopCode)
  (hldq : r.opcode = 0x29 → r.isLoad = true ∧ r.accessSize = .b8)
  (hstq : r.opcode = 0x2D → r.isLoad = false ∧ r.isStore = true ∧ r.accessSize = .b8)
  (h : execUnit r s = (.done res, t))
include hclass hnop hldq hstq h

theorem execUnit_load (hload : r.isLoad = true) : LoadEnds r s res t := by
  rcases execUnit_memory s hclass hnop with heq | ⟨hop, heq⟩ | ⟨hop, -⟩
  · exact collaborate_load hload (heq ▸ h)
  · exact xu1Load_ends hload (hldq hop).2 (heq ▸ h)
  · rw [(hstq hop).1] at hload
    cases hload

theorem execUnit_store (hload : r.isLoad = false) (hstore : r.isStore = true) : StoreEnds r s t := by
  rcases execUnit_memory s hclass hnop with heq | ⟨hop, -⟩ | ⟨hop, heq⟩
  · exact collaborate_store hload hstore (heq ▸ h)
  · rw [(hldq hop).1] at hload
    cases hload
  · exact xu1Store_ends hload hstore (hstq hop).2.2 (heq ▸ h)

end

/-! ## The access by each path -/

theorem StoreEnds.refused {r : InstrRecord} {s t : State} (h : StoreEnds r s t) (hpath : s.cfg.dataPath = .hierarchy)
    (hlegal : s.cfg.legal (s.effAddr r) r.accessSize.bytes = false) : t.sys = s.sys := by
  obtain ⟨b, hlength, hsys⟩ := h
  rw [hsys, s.dataWrite_refused _ _ ((s.writeAnswer_eq_none_iff _ _).mpr ⟨hpath, hlength ▸ hlegal⟩)]

theorem StoreEnds.hierarchy {r : InstrRecord} {s t : State} (h : StoreEnds r s t) (hpath : s.cfg.dataPath = .hierarchy)
    (hlegal : s.cfg.legal (s.effAddr r) r.accessSize.bytes = true) : ∃ (b : List Byte) (m : MemSys),
      b.length = r.accessSize.bytes ∧ cacheWrite s.cfg (s.effAddr r) b s.sys = some m ∧ t.sys = m := by
  obtain ⟨b, hlength, hsys⟩ := h
  have hwrite := cacheWrite_legal s.cfg (s.effAddr r) b s.sys (hlength.symm ▸ hlegal)
  rw [State.dataWrite_of_cacheWrite hpath hwrite] at hsys
  exact ⟨b, _, hlength, hwrite, hsys⟩

/-- A store straight to main memory writes its bytes and no other. -/
theorem StoreEnds.memory {r : InstrRecord} {s t : State} (h : StoreEnds r s t) (hpath : s.cfg.dataPath = .memory)
    (hwf : s.sys.mem.wf = true) : ∃ b : List Byte, b.length = r.accessSize.bytes ∧
      t.sys.caches = s.sys.caches ∧ t.sys.victims = s.sys.victims ∧
      (∀ k < r.accessSize.bytes, t.sys.mem.readByte (s.effAddr r + BitVec.ofNat 64 k).toNat = b.getD k 0) ∧
      ∀ x : Word, ¬ within (s.effAddr r) r.accessSize.bytes x → t.sys.mem.readByte x.toNat = s.sys.mem.readByte x.toNat := by
  obtain ⟨b, hlength, hsys⟩ := h
  have hsize := AccessSize.bytes_le r.accessSize
  have hbytes := fun x => Memory.readByte_writeBytes b hwf (s.effAddr r) x (by omega)
  rw [State.dataWrite_memory b hpath] at hsys
  rw [hsys]
  refine ⟨b, hlength, rfl, rfl, fun k hk => ?_, fun x hx => (hbytes x).trans (if_neg (hlength ▸ hx))⟩
  have hsub : (s.effAddr r + BitVec.ofNat 64 k - s.effAddr r).toNat = k := by
    rw [add_sub_cancel_left, BitVec.toNat_ofNat, Nat.mod_eq_of_lt (by omega)]
  have hbyte := hbytes (s.effAddr r + BitVec.ofNat 64 k)
  rw [hsub, if_pos (hlength.symm ▸ hk)] at hbyte
  exact hbyte

/-- Settles O42: whichever unit completes it, a load or store has made its one access at `x[rb] + disp` and no other. -/
theorem loadStoreAccess : Obligations.LoadStoreAccess := by
  intro s t r res hclass hnop hldq hstq h a n
  have hloaded := execUnit_load hclass hnop hldq hstq h
  have hstored := execUnit_store hclass hnop hldq hstq h
  refine ⟨fun hload => ?_, fun hload hstore => ?_, fun hkind hpath hlegal => ?_⟩
  · obtain ⟨hsys, hvalue, hfloat, hint⟩ := hloaded hload
    refine ⟨hfloat, hint, fun hpath hlegal => ?_, fun hpath => ?_⟩
    · have hread := cacheRead_legal s.cfg .data (s.effAddr r) _ s.sys hlegal
      rw [State.dataRead_of_cacheRead hpath hread] at hsys hvalue
      exact ⟨_, _, hread, hsys, hvalue _ rfl⟩
    · rw [State.dataRead_memory _ hpath] at hsys hvalue
      exact ⟨hsys, hvalue _ rfl⟩
  · exact ⟨(hstored hload hstore).hierarchy, (hstored hload hstore).memory⟩
  · cases hload : r.isLoad with
    | true =>
      obtain ⟨hsys, -⟩ := hloaded hload
      rwa [State.dataRead_refused (a := s.effAddr r) hpath hlegal] at hsys
    | false => exact (hstored hload (hkind.resolve_left (by simp [hload]))).refused hpath hlegal

end Sys2Proof.Machine
end

section
/-! PROOFS. Encoding (30_encoding.md): decode and encode agree, and what a packet that decodes says of its command
word. -/

namespace Sys2Proof

/-! ## Fields of an instruction word (R120) -/

theorem getLsbD_place {n : Nat} (x : BitVec n) (lo k : Nat) :
    (place x lo).getLsbD k = (decide (k < 32) && decide (lo ≤ k) && x.getLsbD (k - lo)) := by
  simp only [place, BitVec.getLsbD_shiftLeft, BitVec.getLsbD_setWidth]
  grind

/-- A field read back where it was placed: as many of its low bits as are read. -/
@[simp] theorem extract_place_same {n : Nat} (x : BitVec n) (lo m : Nat) (h : lo + m ≤ 32) :
    (place x lo).extractLsb' lo m = x.setWidth m := by
  refine BitVec.eq_of_getLsbD_eq fun k hk => ?_
  simp only [BitVec.getLsbD_extractLsb', getLsbD_place, BitVec.getLsbD_setWidth, Nat.add_sub_cancel_left]
  grind

/-- A field has no bits outside its place. -/
@[simp] theorem extract_place_disjoint {n : Nat} (x : BitVec n) (lo start m : Nat)
    (h : start + m ≤ lo ∨ lo + n ≤ start) : (place x lo).extractLsb' start m = 0#m := by
  refine BitVec.eq_of_getLsbD_eq fun k hk => ?_
  simp only [BitVec.getLsbD_extractLsb', getLsbD_place, BitVec.getLsbD_zero]
  grind

/-- Two adjacent fields of a word, each in its place, are one field. -/
theorem place_extract_or (w : IWord) {lo hi n m : Nat} (h : hi = lo + n) :
    place (w.extractLsb' hi m) hi ||| place (w.extractLsb' lo n) lo = place (w.extractLsb' lo (n + m)) lo := by
  refine BitVec.eq_of_getLsbD_eq fun k hk => ?_
  simp only [BitVec.getLsbD_or, getLsbD_place, BitVec.getLsbD_extractLsb']
  grind

theorem place_extract_all (w : IWord) : place (w.extractLsb' 0 32) 0 = w := by
  simp [place]

theorem extract_one (w : IWord) (k : Nat) : w.extractLsb' k 1 = if w.getLsbD k then 1#1 else 0#1 := by
  refine BitVec.eq_of_getLsbD_eq fun j hj => ?_
  obtain rfl : j = 0 := by omega
  cases h : w.getLsbD k <;> simp [h]

/-! ## A word is put together from its fields again (R120) -/

section
variable {w : IWord} {op : BitVec 6} (hop : w.extractLsb' 26 6 = op)
include hop

theorem bodyWord_fields : bodyWord op (w.extractLsb' 0 26) = w := by
  subst hop
  simp only [bodyWord, place_extract_or, Nat.reduceAdd, place_extract_all]

theorem halfWord_fields : halfWord op (w.extractLsb' 21 5) (w.extractLsb' 16 5) (w.extractLsb' 0 16) = w := by
  subst hop
  simp only [halfWord, place_extract_or, Nat.reduceAdd, place_extract_all]

theorem jumpWord_fields :
    jumpWord op (w.extractLsb' 21 5) (w.extractLsb' 16 5) (w.extractLsb' 14 2) (w.extractLsb' 0 14) = w := by
  subst hop
  simp only [jumpWord, place_extract_or, Nat.reduceAdd, place_extract_all]

theorem branchWord_fields : branchWord op (w.extractLsb' 21 5) (w.extractLsb' 0 21) = w := by
  subst hop
  simp only [branchWord, place_extract_or, Nat.reduceAdd, place_extract_all]

theorem floatWord_fields : floatWord op (w.extractLsb' 21 5) (w.extractLsb' 16 5) (w.extractLsb' 5 11)
    (w.extractLsb' 0 5) = w := by
  subst hop
  simp only [floatWord, place_extract_or, Nat.reduceAdd, place_extract_all]

omit hop in
/-- The second operand of an Operate word takes up bits 20:12, the literal flag among them. -/
theorem operandBits_operandOf (w : IWord) : operandBits (operandOf w) = place (w.extractLsb' 12 9) 12 := by
  have hjoin : place (w.extractLsb' 13 8) 13 ||| place (w.extractLsb' 12 1) 12 = place (w.extractLsb' 12 9) 12 :=
    place_extract_or w rfl
  rw [← hjoin, extract_one, operandOf]
  cases w.getLsbD 12
  · have hreg : place (w.extractLsb' 16 5) 16 ||| place (w.extractLsb' 13 3) 13 = place (w.extractLsb' 13 8) 13 :=
      place_extract_or w rfl
    simp only [operandBits, Bool.false_eq_true, if_false, hreg]
    simp [place]
  · rfl

theorem operateWord_fields : operateWord op (w.extractLsb' 21 5) (operandOf w) (w.extractLsb' 5 7)
    (w.extractLsb' 0 5) = w := by
  subst hop
  simp only [operateWord, operandBits_operandOf, place_extract_or, Nat.reduceAdd, place_extract_all]

end

/-! ## The fields are read back from a word (R120) -/

@[simp] theorem bodyWord_opcode (op : BitVec 6) (body : BitVec 26) : (bodyWord op body).extractLsb' 26 6 = op := by
  simp [bodyWord, BitVec.extractLsb'_or]

@[simp] theorem halfWord_opcode (op : BitVec 6) (ra rb : RegNum) (half : BitVec 16) :
    (halfWord op ra rb half).extractLsb' 26 6 = op := by
  simp [halfWord, BitVec.extractLsb'_or]

@[simp] theorem jumpWord_opcode (op : BitVec 6) (ra rb : RegNum) (type : BitVec 2) (hint : BitVec 14) :
    (jumpWord op ra rb type hint).extractLsb' 26 6 = op := by
  simp [jumpWord, BitVec.extractLsb'_or]

@[simp] theorem branchWord_opcode (op : BitVec 6) (ra : RegNum) (disp : BitVec 21) :
    (branchWord op ra disp).extractLsb' 26 6 = op := by
  simp [branchWord, BitVec.extractLsb'_or]

@[simp] theorem floatWord_opcode (op : BitVec 6) (fa fb : RegNum) (func : BitVec 11) (fc : RegNum) :
    (floatWord op fa fb func fc).extractLsb' 26 6 = op := by
  simp [floatWord, BitVec.extractLsb'_or]

@[simp] theorem operateWord_opcode (op : BitVec 6) (ra : RegNum) (x : OperateOperand) (func : BitVec 7) (rc : RegNum) :
    (operateWord op ra x func rc).extractLsb' 26 6 = op := by
  cases x <;> simp [operateWord, operandBits, BitVec.extractLsb'_or]

@[simp] theorem operateWord_ra (op : BitVec 6) (ra : RegNum) (x : OperateOperand) (func : BitVec 7) (rc : RegNum) :
    (operateWord op ra x func rc).extractLsb' 21 5 = ra := by
  cases x <;> simp [operateWord, operandBits, BitVec.extractLsb'_or]

@[simp] theorem operateWord_func (op : BitVec 6) (ra : RegNum) (x : OperateOperand) (func : BitVec 7) (rc : RegNum) :
    (operateWord op ra x func rc).extractLsb' 5 7 = func := by
  cases x <;> simp [operateWord, operandBits, BitVec.extractLsb'_or]

@[simp] theorem operateWord_rc (op : BitVec 6) (ra : RegNum) (x : OperateOperand) (func : BitVec 7) (rc : RegNum) :
    (operateWord op ra x func rc).extractLsb' 0 5 = rc := by
  cases x <;> simp [operateWord, operandBits, BitVec.extractLsb'_or]

/-- Bit 12 of an Operate word is the literal flag. -/
theorem operateWord_flag (op : BitVec 6) (ra : RegNum) (x : OperateOperand) (func : BitVec 7) (rc : RegNum) :
    (operateWord op ra x func rc).getLsbD 12 = match x with
      | .reg .. => false
      | .lit _ => true := by
  cases x <;> simp only [operateWord, operandBits, BitVec.getLsbD_or, getLsbD_place] <;> simp

@[simp] theorem operandOf_operateWord (op : BitVec 6) (ra : RegNum) (x : OperateOperand) (func : BitVec 7) (rc : RegNum) :
    operandOf (operateWord op ra x func rc) = x := by
  rw [operandOf, operateWord_flag]
  cases x <;> simp [operateWord, operandBits, BitVec.extractLsb'_or]

/-! ## The rows of instruction words (R120) -/

/-- The opcodes that are a row of their own. -/
def ownRowOpcodes : List (BitVec 6) :=
  [0x00, 0x01, 0x02, 0x03, 0x04, 0x05, 0x06, 0x07, 0x18, 0x19, 0x1A, 0x1B, 0x1C, 0x1D, 0x1E, 0x1F]

theorem ne_nopCode {w : IWord} {op : BitVec 6} (hop : w.extractLsb' 26 6 = op) (h : op ≠ 0x11) : w ≠ nopCode := by
  rintro rfl
  exact h hop.symm

/-- A word whose opcode shares its row is told apart by the bounds of the rows. -/
theorem decodeWord_sharedRow {w : IWord} {op : BitVec 6} (hop : w.extractLsb' 26 6 = op) (hrow : op ∉ ownRowOpcodes)
    (hnop : w ≠ nopCode) : decodeWord w =
      if op < 0x10 then
        .memory08 (w.extractLsb' 26 3) (w.extractLsb' 21 5) (w.extractLsb' 16 5) (w.extractLsb' 0 16)
      else if op < 0x14 then
        .operate10 (w.extractLsb' 26 2) (w.extractLsb' 21 5) (operandOf w) (w.extractLsb' 5 7) (w.extractLsb' 0 5)
      else if op < 0x18 then
        .floatOp14 (w.extractLsb' 26 2) (w.extractLsb' 21 5) (w.extractLsb' 16 5) (w.extractLsb' 5 11) (w.extractLsb' 0 5)
      else if op < 0x30 then
        .memory20 (w.extractLsb' 26 4) (w.extractLsb' 21 5) (w.extractLsb' 16 5) (w.extractLsb' 0 16)
      else .branch30 (w.extractLsb' 26 4) (w.extractLsb' 21 5) (w.extractLsb' 0 21) := by
  rw [decodeWord, if_neg hnop, hop]
  split
  case h_17 => rfl
  all_goals exact absurd (by decide) hrow

/-! The row's first opcode with the low bits of an opcode of the row is that opcode again. -/

theorem opcodeIn_memory08 : ∀ op : BitVec 6, op ∉ ownRowOpcodes → op < 0x10 → opcodeIn 0x08 (op.setWidth 3) = op := by
  decide

theorem opcodeIn_operate10 : ∀ op : BitVec 6, ¬ op < 0x10 → op < 0x14 → opcodeIn 0x10 (op.setWidth 2) = op := by
  decide

theorem opcodeIn_floatOp14 : ∀ op : BitVec 6, ¬ op < 0x14 → op < 0x18 → opcodeIn 0x14 (op.setWidth 2) = op := by
  decide

theorem opcodeIn_memory20 : ∀ op : BitVec 6, op ∉ ownRowOpcodes → ¬ op < 0x18 → op < 0x30 →
    opcodeIn 0x20 (op.setWidth 4) = op := by
  decide

theorem opcodeIn_branch30 : ∀ op : BitVec 6, ¬ op < 0x30 → opcodeIn 0x30 (op.setWidth 4) = op := by decide

/-- The low bits of the opcode are the bits of the word from 26 on. -/
theorem opcode_low (w : IWord) {n : Nat} (h : n ≤ 6) : w.extractLsb' 26 n = (w.extractLsb' 26 6).setWidth n := by
  refine BitVec.eq_of_getLsbD_eq fun k hk => ?_
  simp only [BitVec.getLsbD_extractLsb', BitVec.getLsbD_setWidth]
  grind

/-! ## Every word is the encoding of what it decodes to (R120, R124) -/

theorem encode_decodeWord_ownRow {w : IWord} (hrow : w.extractLsb' 26 6 ∈ ownRowOpcodes) (hnop : w ≠ nopCode) :
    encode (decodeWord w) = .word w := by
  rw [decodeWord, if_neg hnop]
  split
  case h_1 hop | h_9 hop => exact congrArg _ (halfWord_fields hop)
  case h_11 hop => exact congrArg _ (jumpWord_fields hop)
  case h_13 hop => exact congrArg _ (operateWord_fields hop)
  case h_17 => simp_all [ownRowOpcodes]
  all_goals exact congrArg _ (bodyWord_fields ‹_›)

theorem encode_decodeWord_sharedRow {w : IWord} (hrow : w.extractLsb' 26 6 ∉ ownRowOpcodes) (hnop : w ≠ nopCode) :
    encode (decodeWord w) = .word w := by
  rw [decodeWord_sharedRow rfl hrow hnop, opcode_low w (n := 2) (by decide), opcode_low w (n := 3) (by decide),
    opcode_low w (n := 4) (by decide)]
  split_ifs with h10 h14 h18 h30
  · exact congrArg _ (halfWord_fields (opcodeIn_memory08 _ hrow h10).symm)
  · exact congrArg _ (operateWord_fields (opcodeIn_operate10 _ h10 h14).symm)
  · exact congrArg _ (floatWord_fields (opcodeIn_floatOp14 _ h14 h18).symm)
  · exact congrArg _ (halfWord_fields (opcodeIn_memory20 _ hrow h18 h30).symm)
  · exact congrArg _ (branchWord_fields (opcodeIn_branch30 _ h30).symm)

theorem encode_decodeWord (w : IWord) : encode (decodeWord w) = .word w := by
  by_cases hnop : w = nopCode
  · rw [hnop, decodeWord, if_pos rfl, encode]
  by_cases hrow : w.extractLsb' 26 6 ∈ ownRowOpcodes
  · exact encode_decodeWord_ownRow hrow hnop
  · exact encode_decodeWord_sharedRow hrow hnop

/-! ## The rows that cover several opcodes decode each of them -/

theorem memory08_bounds : ∀ opc : BitVec 3, opcodeIn 0x08 opc ∉ ownRowOpcodes ∧ opcodeIn 0x08 opc ≠ 0x11 ∧
    opcodeIn 0x08 opc < 0x10 := by
  decide

theorem operate10_bounds : ∀ opc : BitVec 2, opcodeIn 0x10 opc ∉ ownRowOpcodes ∧
    ¬ opcodeIn 0x10 opc < 0x10 ∧ opcodeIn 0x10 opc < 0x14 := by
  decide

theorem floatOp14_bounds : ∀ opc : BitVec 2, opcodeIn 0x14 opc ∉ ownRowOpcodes ∧ opcodeIn 0x14 opc ≠ 0x11 ∧
    ¬ opcodeIn 0x14 opc < 0x10 ∧ ¬ opcodeIn 0x14 opc < 0x14 ∧ opcodeIn 0x14 opc < 0x18 := by
  decide

theorem memory20_bounds : ∀ opc : BitVec 4, opcodeIn 0x20 opc ∉ ownRowOpcodes ∧ opcodeIn 0x20 opc ≠ 0x11 ∧
    ¬ opcodeIn 0x20 opc < 0x10 ∧ ¬ opcodeIn 0x20 opc < 0x14 ∧ ¬ opcodeIn 0x20 opc < 0x18 ∧ opcodeIn 0x20 opc < 0x30 := by
  decide

theorem branch30_bounds : ∀ opc : BitVec 4, opcodeIn 0x30 opc ∉ ownRowOpcodes ∧ opcodeIn 0x30 opc ≠ 0x11 ∧
    ¬ opcodeIn 0x30 opc < 0x10 ∧ ¬ opcodeIn 0x30 opc < 0x14 ∧ ¬ opcodeIn 0x30 opc < 0x18 ∧
    ¬ opcodeIn 0x30 opc < 0x30 := by
  decide

theorem decodeWord_memory08 (opc : BitVec 3) (ra rb : RegNum) (half : BitVec 16) :
    decodeWord (halfWord (opcodeIn 0x08 opc) ra rb half) = .memory08 opc ra rb half := by
  obtain ⟨hrow, hnop, h10⟩ := memory08_bounds opc
  rw [decodeWord_sharedRow (halfWord_opcode ..) hrow (ne_nopCode (halfWord_opcode ..) hnop), if_pos h10]
  simp [halfWord, BitVec.extractLsb'_or, opcodeIn]

/-- The Operate word that is the no-op word has the operands of the no-op word (R125). -/
theorem operateWord_ne_nopCode {opc : BitVec 2} {ra : RegNum} {x : OperateOperand} {func : BitVec 7} {rc : RegNum}
    (h : Instr.spellsNop opc ra x func rc = false) : operateWord (opcodeIn 0x10 opc) ra x func rc ≠ nopCode := by
  intro heq
  have hopc : opcodeIn 0x10 opc = 0x11 := by rw [← operateWord_opcode (opcodeIn 0x10 opc) ra x func rc, heq]; rfl
  have hra : ra = 31 := by rw [← operateWord_ra (opcodeIn 0x10 opc) ra x func rc, heq]; rfl
  have hx : x = .reg 31 0 := by rw [← operandOf_operateWord (opcodeIn 0x10 opc) ra x func rc, heq]; rfl
  have hfunc : func = 0x20 := by rw [← operateWord_func (opcodeIn 0x10 opc) ra x func rc, heq]; rfl
  have hrc : rc = 31 := by rw [← operateWord_rc (opcodeIn 0x10 opc) ra x func rc, heq]; rfl
  have hone : ∀ o : BitVec 2, opcodeIn 0x10 o = 0x11 → o = 1 := by decide
  simp [Instr.spellsNop, hone opc hopc, hra, hx, hfunc, hrc] at h

theorem decodeWord_operate10 {opc : BitVec 2} {ra : RegNum} {x : OperateOperand} {func : BitVec 7} {rc : RegNum}
    (h : Instr.spellsNop opc ra x func rc = false) :
    decodeWord (operateWord (opcodeIn 0x10 opc) ra x func rc) = .operate10 opc ra x func rc := by
  obtain ⟨hrow, h10, h14⟩ := operate10_bounds opc
  rw [decodeWord_sharedRow (operateWord_opcode ..) hrow (operateWord_ne_nopCode h), if_neg h10, if_pos h14,
    opcode_low _ (by decide)]
  simp [opcodeIn]

theorem decodeWord_floatOp14 (opc : BitVec 2) (fa fb : RegNum) (func : BitVec 11) (fc : RegNum) :
    decodeWord (floatWord (opcodeIn 0x14 opc) fa fb func fc) = .floatOp14 opc fa fb func fc := by
  obtain ⟨hrow, hnop, h10, h14, h18⟩ := floatOp14_bounds opc
  rw [decodeWord_sharedRow (floatWord_opcode ..) hrow (ne_nopCode (floatWord_opcode ..) hnop), if_neg h10, if_neg h14,
    if_pos h18]
  simp [floatWord, BitVec.extractLsb'_or, opcodeIn]

theorem decodeWord_memory20 (opc : BitVec 4) (ra rb : RegNum) (half : BitVec 16) :
    decodeWord (halfWord (opcodeIn 0x20 opc) ra rb half) = .memory20 opc ra rb half := by
  obtain ⟨hrow, hnop, h10, h14, h18, h30⟩ := memory20_bounds opc
  rw [decodeWord_sharedRow (halfWord_opcode ..) hrow (ne_nopCode (halfWord_opcode ..) hnop), if_neg h10, if_neg h14,
    if_neg h18, if_pos h30]
  simp [halfWord, BitVec.extractLsb'_or, opcodeIn]

theorem decodeWord_branch30 (opc : BitVec 4) (ra : RegNum) (disp : BitVec 21) :
    decodeWord (branchWord (opcodeIn 0x30 opc) ra disp) = .branch30 opc ra disp := by
  obtain ⟨hrow, hnop, h10, h14, h18, h30⟩ := branch30_bounds opc
  rw [decodeWord_sharedRow (branchWord_opcode ..) hrow (ne_nopCode (branchWord_opcode ..) hnop), if_neg h10, if_neg h14,
    if_neg h18, if_neg h30]
  simp [branchWord, BitVec.extractLsb'_or, opcodeIn]

/-! ## A well-formed instruction decodes from its encoding (R106, R107, R120) -/

@[simp] theorem stageCW_unit (op : BitVec 4) (id : StageId) : (stageCW op id).extractLsb' 12 4 = 1#4 := by
  revert op
  cases id <;> decide

@[simp] theorem stageCW_op (op : BitVec 4) (id : StageId) : (stageCW op id).extractLsb' 8 4 = op := by
  revert op
  cases id <;> decide

@[simp] theorem stageCW_mod (op : BitVec 4) (id : StageId) : (stageCW op id).extractLsb' 0 8 = id.code.setWidth 8 := by
  revert op
  cases id <;> decide

@[simp] theorem whenStage_code (id : StageId) (f : StageId → Instr) : whenStage (id.code.setWidth 8) f = .ok (f id) := by
  cases id <;> rfl

/-- A stage-unit command word is decoded by its `op`, with the stage in `mod` (R107). -/
theorem decodePacket_stageCW {p : Packet} {op : BitVec 4} {id : StageId} (h : p.cw = stageCW op id) :
    decodePacket p = decodeStageUnit p op (id.code.setWidth 8) := by
  simp [decodePacket, h]

theorem decode_encode {cfg : Config} {i : Instr} (h : i.wellFormed cfg = true) : decode (encode i) = .ok i := by
  cases i with
  | cFlushall | cValidate | fFlushreq | kStart | kStop | kFlush | kTick | kAdvance | reset => rfl
  | cRead | cWrite | cIfetch => simp [decode, encode, plainPacket, decodePacket, decodeCacheUnit, decodeAccess]
  | cInvrange => simp [decode, encode, plainPacket, decodePacket, decodeCacheUnit, whenMod]
  | fRedirect | fSetpc => simp [decode, encode, plainPacket, decodePacket, decodeFetchUnit, whenMod]
  | xComplete => simp [decode, encode, plainPacket, decodePacket, decodeExecUnit, whenMod]
  | kException => simp [decode, encode, plainPacket, decodePacket, decodeCtrlUnit, whenMod]
  | cRdstat l k => cases l <;> cases k <;> rfl
  | sInit id | sStart id | sSubmit id r | sStep id | sAdjust id n | sShutdown id | sFlush id =>
    refine (decodePacket_stageCW (id := id) rfl).trans ?_
    simp [decodeStageUnit, decodeSubmit, plainPacket]
  | sRdstat id k => cases id <;> cases k <;> rfl
  | fRdstat k | xRdstat k | wRdstat k | kRdstate k => cases k <;> rfl
  | nopWord => rfl
  | misc00 ra rb half | misc18 ra rb half =>
    refine congrArg Except.ok ?_
    rw [decodeWord, if_neg (ne_nopCode (halfWord_opcode ..) (by decide)), halfWord_opcode]
    simp [halfWord, BitVec.extractLsb'_or]
  | jump1A ra rb type hint =>
    refine congrArg Except.ok ?_
    rw [decodeWord, if_neg (ne_nopCode (jumpWord_opcode ..) (by decide)), jumpWord_opcode]
    simp [jumpWord, BitVec.extractLsb'_or]
  | operate1C ra x func rc =>
    refine congrArg Except.ok ?_
    rw [decodeWord, if_neg (ne_nopCode (operateWord_opcode ..) (by decide)), operateWord_opcode]
    simp
  | invalid01 body | invalid02 body | invalid03 body | invalid04 body | invalid05 body | invalid06 body
  | invalid07 body | invalid19 body | invalid1B body | invalid1D body | invalid1E body | invalid1F body =>
    refine congrArg Except.ok ?_
    rw [decodeWord, if_neg (ne_nopCode (bodyWord_opcode ..) (by decide)), bodyWord_opcode]
    simp [bodyWord, BitVec.extractLsb'_or]
  | memory08 opc ra rb half => exact congrArg _ (decodeWord_memory08 ..)
  | operate10 opc ra x func rc =>
    exact congrArg _ (decodeWord_operate10 (by simpa [Instr.wellFormed] using h))
  | floatOp14 opc fa fb func fc => exact congrArg _ (decodeWord_floatOp14 ..)
  | memory20 opc ra rb half => exact congrArg _ (decodeWord_memory20 ..)
  | branch30 opc ra disp => exact congrArg _ (decodeWord_branch30 ..)

/-- Settles O1: commands by the cases of their selectors, words by reading back and joining the fields of their row. -/
theorem decodeOfEncode : Obligations.DecodeOfEncode := ⟨fun _ _ => decode_encode, encode_decodeWord⟩

/-- Settles O2: each word is closed, and the decoder evaluates. -/
theorem specWordsDecode : Obligations.SpecWordsDecode := by
  unfold Obligations.SpecWordsDecode
  decide

/-! ## What a packet that decodes says of the fields of its command word (R101, R102, R106, R110) -/

/-- A `mod` whose bits from a place on are 0 holds only the bits below. -/
theorem eq_setWidth_low {md : BitVec 8} {k m : Nat} (hm : k + m = 8) (h : md.extractLsb' k m = 0) :
    md = (md.extractLsb' 0 k).setWidth 8 := by
  refine BitVec.eq_of_getLsbD_eq fun j hj => ?_
  have hhigh : (md.extractLsb' k m).getLsbD (j - k) = false := by rw [h]; exact BitVec.getLsbD_zero
  simp only [BitVec.getLsbD_extractLsb', BitVec.getLsbD_setWidth] at hhigh ⊢
  grind

theorem ite_error_ok {c : Prop} [Decidable c] {x : Except Reject Instr} {e : Reject} {i : Instr}
    (h : (if c then x else .error e) = .ok i) : c ∧ x = .ok i := by
  split at h
  · exact ⟨‹c›, h⟩
  · cases h

theorem whenMod_ok {m md : BitVec 8} {i j : Instr} (h : whenMod m md i = .ok j) : md = m := (ite_error_ok h).1

theorem whenStage_ok {md : BitVec 8} {f : StageId → Instr} {i : Instr} (h : whenStage md f = .ok i) :
    md.extractLsb' 2 6 = 0 := (ite_error_ok h).1

theorem decodeSubmit_ok {p : Packet} {md : BitVec 8} {i : Instr} (h : decodeSubmit p md = .ok i) :
    md.extractLsb' 2 6 = 0 := by
  unfold decodeSubmit at h
  split at h
  · exact whenStage_ok h
  · cases h
  · cases h

theorem decodeAccess_ok {p : Packet} {md : BitVec 8} {i : Instr} (h : decodeAccess p md = .ok i) :
    md = 0 ∨ md = 1 ∨ md = 2 := by
  unfold decodeAccess at h
  split at h
  · exact .inl rfl
  · exact .inr (.inl rfl)
  · exact .inr (.inr rfl)
  · cases h

theorem ExecSel.ofCode_map_ok {c : BitVec 3} {f : ExecSel → Instr} {i : Instr} (h : (ExecSel.ofCode c).map f = .ok i) :
    c < 5 := by
  unfold ExecSel.ofCode at h
  split at h
  case h_6 => cases h
  all_goals decide

theorem WbSel.ofCode_map_ok {c : BitVec 3} {f : WbSel → Instr} {i : Instr} (h : (WbSel.ofCode c).map f = .ok i) :
    c < 6 := by
  unfold WbSel.ofCode at h
  split at h
  case h_7 => cases h
  all_goals decide

/-- The command word with a `unit`, an `op` and a `mod` (R101). -/
def commandWord (unit op : BitVec 4) (md : BitVec 8) : CWord := unit ++ op ++ md

theorem commandWord_fields (cw : CWord) :
    commandWord (cw.extractLsb' 12 4) (cw.extractLsb' 8 4) (cw.extractLsb' 0 8) = cw := by
  refine BitVec.eq_of_getLsbD_eq fun k hk => ?_
  simp only [commandWord, BitVec.getLsbD_append, BitVec.getLsbD_extractLsb']
  grind

end Sys2Proof
end

section
/-! PROOFS. Encoding (30_encoding.md), in the machine: a reserved command word, a placed instruction, and the read-outs. -/

namespace Sys2Proof.Machine

/-! ## A packet that decodes has a command word (R106, R107, R110, R111) -/

theorem commandWord_low {unit op : BitVec 4} {md : BitVec 8} {k m : Nat} (hm : k + m = 8) (hhigh : md.extractLsb' k m = 0)
    (hrow : ∀ c : BitVec k, isCommandWord (commandWord unit op (c.setWidth 8)) = true) :
    isCommandWord (commandWord unit op md) = true := by
  rw [eq_setWidth_low hm hhigh]
  exact hrow _

theorem isCommandWord_cacheUnit {p : Packet} {op : BitVec 4} {md : BitVec 8} {i : Instr}
    (h : decodeCacheUnit p op md = .ok i) : isCommandWord (commandWord 0 op md) = true := by
  unfold decodeCacheUnit at h
  split at h
  case h_1 => rcases decodeAccess_ok h with rfl | rfl | rfl <;> rfl
  case h_5 => exact commandWord_low rfl (ite_error_ok h).1 (by decide)
  case h_6 => cases h
  all_goals rw [whenMod_ok h]; rfl

theorem isCommandWord_stageUnit {p : Packet} {op : BitVec 4} {md : BitVec 8} {i : Instr}
    (h : decodeStageUnit p op md = .ok i) : isCommandWord (commandWord 1 op md) = true := by
  unfold decodeStageUnit at h
  split at h
  case h_3 => exact commandWord_low rfl (decodeSubmit_ok h) (by decide)
  case h_8 => exact commandWord_low rfl (ite_error_ok h).1 (by decide)
  case h_9 => cases h
  all_goals exact commandWord_low rfl (whenStage_ok h) (by decide)

theorem isCommandWord_fetchUnit {p : Packet} {op : BitVec 4} {md : BitVec 8} {i : Instr}
    (h : decodeFetchUnit p op md = .ok i) : isCommandWord (commandWord 2 op md) = true := by
  unfold decodeFetchUnit at h
  split at h
  case h_4 => exact commandWord_low rfl (ite_error_ok h).1 (by decide)
  case h_5 => cases h
  all_goals rw [whenMod_ok h]; rfl

theorem isCommandWord_execUnit {p : Packet} {op : BitVec 4} {md : BitVec 8} {i : Instr}
    (h : decodeExecUnit p op md = .ok i) : isCommandWord (commandWord 3 op md) = true := by
  have hsel : ∀ c : BitVec 3, c < 5 → isCommandWord (commandWord 3 1 (c.setWidth 8)) = true := by decide
  unfold decodeExecUnit at h
  split at h
  case h_1 => rw [whenMod_ok h]; rfl
  case h_2 =>
    obtain ⟨hhigh, h⟩ := ite_error_ok h
    rw [eq_setWidth_low rfl hhigh]
    exact hsel _ (ExecSel.ofCode_map_ok h)
  case h_3 => cases h

theorem isCommandWord_wbUnit {op : BitVec 4} {md : BitVec 8} {i : Instr}
    (h : decodeWbUnit op md = .ok i) : isCommandWord (commandWord 4 op md) = true := by
  have hsel : ∀ c : BitVec 3, c < 6 → isCommandWord (commandWord 4 0 (c.setWidth 8)) = true := by decide
  unfold decodeWbUnit at h
  split at h
  case h_1 =>
    obtain ⟨hhigh, h⟩ := ite_error_ok h
    rw [eq_setWidth_low rfl hhigh]
    exact hsel _ (WbSel.ofCode_map_ok h)
  case h_2 => cases h

theorem isCommandWord_ctrlUnit {p : Packet} {op : BitVec 4} {md : BitVec 8} {i : Instr}
    (h : decodeCtrlUnit p op md = .ok i) : isCommandWord (commandWord 5 op md) = true := by
  unfold decodeCtrlUnit at h
  split at h
  case h_6 => exact commandWord_low rfl (ite_error_ok h).1 (by decide)
  case h_8 => cases h
  all_goals rw [whenMod_ok h]; rfl

theorem isCommandWord_of_decodePacket {p : Packet} {i : Instr} (h : decodePacket p = .ok i) :
    isCommandWord p.cw = true := by
  rw [← commandWord_fields p.cw]
  unfold decodePacket at h
  split at h
  case h_1 hunit => rw [hunit]; exact isCommandWord_cacheUnit h
  case h_2 hunit => rw [hunit]; exact isCommandWord_stageUnit h
  case h_3 hunit => rw [hunit]; exact isCommandWord_fetchUnit h
  case h_4 hunit => rw [hunit]; exact isCommandWord_execUnit h
  case h_5 hunit => rw [hunit]; exact isCommandWord_wbUnit h
  case h_6 hunit => rw [hunit]; exact isCommandWord_ctrlUnit h
  case h_7 hunit =>
    obtain ⟨hop, h⟩ := ite_error_ok h
    rw [hunit, hop, whenMod_ok h]
    rfl
  case h_8 => cases h

theorem step_reject (s : State) {p : Packet} {e : Reject} (hcfg : s.cfg.ok = true) (hturn : s.turn = some (.command p))
    (hdec : decodePacket p = .error e) : step s = .next (s.popped.refuse .errIllegal) := by
  simp only [step, hcfg, hturn, hdec, if_true]

/-- Settles O3: a packet that decodes has a command word, so this one is rejected. -/
theorem reservedWordRefused : Obligations.ReservedWordRefused := by
  intro s p hcfg hturn hword
  cases hdec : decodePacket p with
  | ok i => rw [isCommandWord_of_decodePacket hdec] at hword; cases hword
  | error e => rw [step_reject s hcfg hturn hdec, s.popped_eq]; rfl

/-! ## The meaning of an instruction word -/

/-- An instruction word means an iteration of the Decode worker on it (R174, R220). -/
theorem exec_of_encode {i : Instr} {w : IWord} (h : encode i = .word w) (s : State) : exec i s = .next (s.decodeStep w) := by
  cases i with
  | nopWord | misc00 | invalid01 | invalid02 | invalid03 | invalid04 | invalid05 | invalid06 | invalid07 | memory08
  | operate10 | floatOp14 | misc18 | invalid19 | jump1A | invalid1B | operate1C | invalid1D | invalid1E | invalid1F
  | memory20 | branch30 => cases h; rfl
  | _ => cases h

theorem exec_decodeWord (w : IWord) (s : State) : exec (decodeWord w) s = .next (s.decodeStep w) :=
  exec_of_encode (encode_decodeWord w) s

theorem State.decodeHead_eq_some {s : State} {w : IWord} (h : s.decodeHead = some w) :
    s.running .d = true ∧ (s.stage .d).flushFlag = false ∧ ∃ r rest, (s.stage .d).queue = r :: rest ∧ r.raw = w := by
  unfold State.decodeHead at h
  split at h
  · rename_i hrun
    simp only [Bool.and_eq_true, Bool.not_eq_true'] at hrun
    cases hq : (s.stage .d).queue with
    | nil => simp [hq] at h
    | cons r rest => exact ⟨hrun.1, hrun.2, r, rest, rfl, by simpa [hq] using h⟩
  · cases h

/-- The Decode worker works on a record as on the record's word (R174, R220). -/
theorem exec_decodeWord_head {s : State} {w : IWord} (h : s.decodeHead = some w) :
    exec (decodeWord w) s = exec (.sStep .d) s := by
  obtain ⟨hrun, hflush, r, rest, hq, rfl⟩ := State.decodeHead_eq_some h
  have hwork : s.iterate .d (processWord r.raw) = s.iterate .d processD := by
    rw [s.iterate_work .d _ hflush hq, s.iterate_work .d _ hflush hq]
    rfl
  rw [exec_decodeWord, State.decodeStep, hwork]
  rfl

theorem exec_refine (i : Instr) (s : State) : exec (s.refine i) s = exec i s := by
  unfold State.refine
  split
  case isTrue hi =>
    split
    case h_1 hhead => rw [exec_decodeWord_head hhead, hi]
    case h_2 => rfl
  case isFalse => rfl

/-! ## An instruction put where the next step takes it -/

theorem State.withCommand_eq (s : State) (p : Packet) :
    s.withCommand p = ({ s with port := p :: s.port } : State).supplied 0 := rfl

theorem State.withCommand_turn (s : State) (p : Packet) : (s.withCommand p).turn = some (.command p) := by
  have hfirst : ({ s with port := p :: s.port } : State).turns =
      .command p :: ({ s with port := p :: s.port } : State).enabled.map .agent := rfl
  rw [s.withCommand_eq, State.turn, State.supplied_pick _ (by simp [hfirst]), State.supplied_turns, hfirst]
  rfl

theorem State.withCommand_popped (s : State) (p : Packet) :
    (s.withCommand p).popped = { s with draws := { s.draws with count := s.draws.count + 1 } } := rfl

theorem step_withCommand {s : State} {p : Packet} {i : Instr} (hcfg : s.cfg.ok = true) (hdec : decodePacket p = .ok i) :
    step (s.withCommand p) = exec i { s with draws := { s.draws with count := s.draws.count + 1 } } := by
  rw [step_command (s.withCommand p) p i hcfg (s.withCommand_turn p) hdec, exec_refine, s.withCommand_popped]

theorem Stage.withWord_life (st : Stage) (pc : Word) (w : IWord) : (st.withWord pc w).life = .running := by
  unfold Stage.withWord
  split <;> rfl

theorem Stage.withWord_flushFlag (st : Stage) (pc : Word) (w : IWord) : (st.withWord pc w).flushFlag = false := by
  unfold Stage.withWord
  split <;> rfl

theorem Stage.withWord_head (st : Stage) (pc : Word) (w : IWord) :
    (st.withWord pc w).queue.head?.map (·.raw) = some w := by
  unfold Stage.withWord
  split
  · rfl
  · simp [Stage.accept, freshRecord, *]

/-- The word placed in Decode is what its worker decodes next. -/
theorem State.decodeHead_placed (s : State) (pc : Word) (w : IWord) (d : Draws) :
    ({ s.setStage .d ((s.stage .d).withWord pc w) with draws := d } : State).decodeHead = some w := by
  have hstage : ({ s.setStage .d ((s.stage .d).withWord pc w) with draws := d } : State).stage .d =
      (s.stage .d).withWord pc w := StageMap.get_set_same s.stages .d _
  rw [State.decodeHead, State.running, hstage, Stage.withWord_life, Stage.withWord_flushFlag, Stage.withWord_head]
  rfl

theorem step_withWord {s : State} (w : IWord) (hcfg : s.cfg.ok = true) :
    step (s.withWord w) = exec (decodeWord w) { s with
        stages := s.stages.set .d ((s.stages.get .d).withWord s.fetch.nextPC w)
        draws := { s.draws with count := s.draws.count + 1 } } :=
  (step_withCommand (s := s.setStage .d ((s.stage .d).withWord s.fetch.nextPC w)) (i := .sStep .d) hcfg rfl).trans
    (exec_decodeWord_head (s.decodeHead_placed _ w _)).symm

theorem decodePacket_of_tableWord {nbits w : Nat} {i : Instr} (hbits : nbits ≠ 32) (h : decodeTableWord nbits w = some i) :
    decodePacket (packetOfBits w) = .ok i := by
  rw [decodeTableWord, isWordRow, if_neg (by simpa using hbits)] at h
  cases hdec : decodePacket (packetOfBits w) with
  | ok j => rw [hdec] at h; exact congrArg _ (Option.some.inj h)
  | error e => rw [hdec] at h; cases h

/-- Settles O6: the placed command is first at the port and the supplied draw of 0 picks it; a placed word goes by the step
of Decode's worker, which is the word's own meaning. -/
theorem placedInstructionRuns : Obligations.PlacedInstructionRuns := by
  intro s nbits w i hcfg hdec d
  refine ⟨fun hbits => ?_, fun hbits => ?_⟩
  · rw [State.withFetchWord, isWordRow, if_neg (by simpa using hbits)]
    exact step_withCommand hcfg (decodePacket_of_tableWord hbits hdec)
  · subst hbits
    obtain rfl : decodeWord (BitVec.ofNat 32 w) = i := Option.some.inj hdec
    exact step_withWord _ hcfg

/-! ## Read-outs (R108 to R110) -/

/-- A value stands at the place that is its number, in a list that is in the order of the numbers. -/
theorem eq_code_of_getElem? {α : Type} {L : List α} (code : α → Nat) (hL : L.map code = List.range L.length) {n : Nat}
    {v : α} (h : L[n]? = some v) : n = code v := by
  have hmap : (List.range L.length)[n]? = some (code v) := by rw [← hL, List.getElem?_map, h]; rfl
  obtain ⟨hn, hat⟩ := List.getElem?_eq_some_iff.mp hmap
  rwa [List.getElem_range] at hat

/-- Settles O59: a selector's place in its list is its number in the command word, and a read-out only answers. -/
theorem readOuts : Obligations.ReadOuts := by
  intro s asked
  refine ⟨fun l n k v hn hk => ?_, fun id n k v hn hk => ?_, fun k v hk => ?_, fun k v hk => ?_, fun k v hk => ?_,
    fun k v hk => ?_, ?_, fun l k => ?_, fun id k => ?_, fun k => ?_, fun k => ?_, fun k => ?_, fun k => ?_⟩
  · rw [eq_code_of_getElem? (fun l => l.code.toNat) rfl hn, eq_code_of_getElem? (fun v => v.code.toNat) rfl hk]
    cases l <;> cases v <;> rfl
  · rw [eq_code_of_getElem? (fun id => id.code.toNat) rfl hn, eq_code_of_getElem? (fun v => v.code.toNat) rfl hk]
    cases id <;> cases v <;> rfl
  · rw [eq_code_of_getElem? (fun v => v.code.toNat) rfl hk]
    cases v <;> rfl
  · rw [eq_code_of_getElem? (fun v => v.code.toNat) rfl hk]
    cases v <;> rfl
  · rw [eq_code_of_getElem? (fun v => v.code.toNat) rfl hk]
    cases v <;> rfl
  · rw [eq_code_of_getElem? (fun v => v.code.toNat) rfl hk]
    cases v <;> rfl
  · simp only [List.forall_mem_cons]
    exact ⟨rfl, rfl, rfl, rfl, rfl, List.forall_mem_nil _⟩
  · cases k <;> rfl
  · cases k <;> rfl
  · cases k <;> rfl
  · cases k <;> rfl
  · cases k <;> rfl
  · cases k <;> rfl

end Sys2Proof.Machine
end

section
/-! PROOFS. Memory (40_cache_ops.md): the parts of an address put together again (R131, R132), an access that is refused (R133),
and a flush of an empty hierarchy (R147). -/

namespace Sys2Proof.Machine

/-! ## `Decompose` and `Compose` (R131, R132) -/

/-- `Decompose` divides the address by the line size and the number of sets, `Compose` multiplies and adds the remainders. -/
theorem Config.compose_parts {c : Config} (hok : c.ok = true) (l : Level) (a : Word) :
    c.compose l (c.tagOf l a) (c.indexOf l a) (c.offsetOf a) = a := by
  refine BitVec.eq_of_toNat_eq ?_
  rw [c.toNat_compose hok (c.tagOf_lt hok l a) (c.indexOf_lt hok l a) (c.offsetOf_lt hok a), c.toNat_tagOf hok,
    c.indexOf_eq hok, Nat.div_add_mod, c.offsetOf_eq hok, Nat.div_add_mod]

/-- Settles O19: the composed address is the quotients and remainders of the address put together again. -/
theorem decomposeCompose : Obligations.DecomposeCompose := by
  refine fun c l a hok => ⟨Config.compose_parts hok l a, ?_, rfl, fun _ _ _ => rfl⟩
  exact ((c.lineAddr_eq_compose_iff hok (c.tagOf_lt hok l a) (c.indexOf_lt hok l a) a).mpr ⟨rfl, rfl⟩).symm

/-! ## Refused accesses (R133) -/

theorem legal_iff (c : Config) (a : Word) (n : Nat) :
    c.legal a n = true ↔ 1 ≤ n ∧ n ≤ c.lineSize ∧ c.offsetOf a + n ≤ c.lineSize := by
  simp only [Config.legal, Bool.and_eq_true, decide_eq_true_eq, and_assoc]

theorem readCommand_illegal (k : ReadKind) {addr size : Word} {s : State} (h : s.cfg.legal addr size.toNat = false) :
    readCommand k addr size s = s.refuse .errSpan := by
  rw [readCommand, cacheRead_illegal _ _ _ _ _ h]

theorem execCWrite_illegal {addr size : Word} (bytes : List Byte) {s : State} (h : s.cfg.legal addr size.toNat = false) :
    execCWrite addr size bytes s = .next (s.refuse .errSpan) := by
  rw [execCWrite, if_neg (Bool.eq_false_iff.mp h)]

theorem execCWrite_badLength {addr size : Word} {bytes : List Byte} {s : State} (h : s.cfg.legal addr size.toNat = true)
    (hlength : bytes.length ≠ size.toNat) : execCWrite addr size bytes s = .next (s.refuse .errRange) := by
  rw [execCWrite, if_pos h, if_neg hlength]

/-- Settles O22: the span is tested before the payload's length, and a refusal writes only the response. -/
theorem illegalAccessRefused : Obligations.IllegalAccessRefused := by
  refine fun s addr size bytes => ⟨legal_iff _ _ _, fun h => ⟨?_, ?_, execCWrite_illegal bytes h⟩, execCWrite_badLength⟩
  · exact congrArg Host.Outcome.next (readCommand_illegal .data h)
  · exact congrArg Host.Outcome.next (readCommand_illegal .fetch h)

/-! ## A second flush (R147) -/

/-- A flush leaves no valid line, whatever the lines held. -/
theorem flushAll_line_invalid {c : Config} (hok : c.ok = true) {m : MemSys} (h : m.good c) :
    ∀ l, ∀ i < c.numSets l, ∀ w < c.assoc.get l, ((flushAll c m).line l i w).valid = false := by
  refine (forEachWay_establishes (P := MemSys.good c) (Q := fun l i w x => (x.line l i w).valid = false)
    (fun l i w x hi hw hx => ?_) (fun l i w x l' i' w' hbelow hx hq => ?_) h).2
  · rw [writebackInvalidate_eq_takenOut]
    exact ⟨MemSys.takenOut_good hok l i w 0 hx, MemSys.takenOut_line_invalid c l i w 0 x⟩
  · rw [writebackInvalidate_eq_takenOut]
    refine Bool.eq_false_iff.mpr fun hvalid => ?_
    rw [MemSys.takenOut_line_of_valid c hbelow hvalid, hq] at hvalid
    cases hvalid

/-- A flush finds nothing to do where no way of the geometry holds a valid line. -/
theorem flushAll_of_invalid {c : Config} {m : MemSys}
    (h : ∀ l, ∀ i < c.numSets l, ∀ w < c.assoc.get l, (m.line l i w).valid = false) : flushAll c m = m :=
  forEachWay_keeps (P := (· = m)) (fun l i w x hi hw hx =>
    (writebackInvalidate_invalid c _ l i w x (hx ▸ h l i hi w hw)).trans hx) rfl

theorem flushAll_flushAll {c : Config} (hok : c.ok = true) {m : MemSys} (h : m.good c) :
    flushAll c (flushAll c m) = flushAll c m :=
  flushAll_of_invalid (flushAll_line_invalid hok h)

/-- Settles O24: the first flush leaves no valid line, and a flush without one changes nothing. -/
theorem flushAllTwice : Obligations.FlushAllTwice := by
  intro s t hok hgood hexec
  obtain rfl : ({ s with sys := flushAll s.cfg s.sys } : State).okay = t := Host.Outcome.next.inj hexec
  exact congrArg (fun m => Host.Outcome.next ({ s with sys := m } : State).okay) (flushAll_flushAll hok hgood)

end Sys2Proof.Machine
end

section
/-! PROOFS. Memory (40_cache_ops.md): the choice of a victim (R143). -/

namespace Sys2Proof.Machine

/-! ## The least recently used way -/

/-- Of the first `n` ways of a set, `k` has the smallest stamp, and is the lowest that has it. -/
def CacheSet.leastStamp (st : CacheSet) (n k : Nat) : Prop :=
  k < n ∧ (∀ w < n, (st.way k).lastAccess ≤ (st.way w).lastAccess) ∧
    ∀ w < k, (st.way k).lastAccess < (st.way w).lastAccess

/-- One way more takes over where its stamp is smaller than every one before. -/
theorem CacheSet.leastStamp_succ {st : CacheSet} {n k : Nat} (h : st.leastStamp n k) :
    st.leastStamp (n + 1) (if (st.way n).lastAccess < (st.way k).lastAccess then n else k) := by
  obtain ⟨hk, hleast, hlowest⟩ := h
  split
  case isTrue hsmaller =>
    have hbelow : ∀ w < n, (st.way n).lastAccess < (st.way w).lastAccess := fun w hw => hsmaller.trans_le (hleast w hw)
    refine ⟨Nat.lt_succ_self n, fun w hw => ?_, hbelow⟩
    rcases Nat.lt_succ_iff_lt_or_eq.mp hw with hlt | rfl
    · exact (hbelow w hlt).le
    · exact le_refl _
  case isFalse hnot =>
    refine ⟨Nat.lt_succ_of_lt hk, fun w hw => ?_, hlowest⟩
    rcases Nat.lt_succ_iff_lt_or_eq.mp hw with hlt | rfl
    · exact hleast w hlt
    · exact Nat.le_of_not_lt hnot

/-- The scan goes on from the least of the ways before it. -/
theorem CacheSet.lruScan_leastStamp {st : CacheSet} : ∀ {rest : List CacheLine} {n k : Nat}, st.ways.drop n = rest →
    st.leastStamp n k → st.leastStamp (n + rest.length) (lruScan rest n k (st.way k).lastAccess)
  | [], _, _, _, h => h
  | ln :: rest, n, k, hdrop, h => by
    have hline : st.way n = ln := by
      rw [CacheSet.way, List.getD_eq_getElem?_getD, ← List.head?_drop, hdrop]
      rfl
    have hrest : st.ways.drop (n + 1) = rest := by rw [← List.tail_drop, hdrop, List.tail_cons]
    have hnext := CacheSet.lruScan_leastStamp hrest (CacheSet.leastStamp_succ h)
    rw [List.length_cons, Nat.add_comm rest.length, ← Nat.add_assoc, lruScan, ← hline]
    split at hnext
    case isTrue hsmaller => rwa [if_pos hsmaller]
    case isFalse hnot => rwa [if_neg hnot]

theorem CacheSet.lruWay_leastStamp {st : CacheSet} (h : 1 ≤ st.ways.length) :
    st.leastStamp st.ways.length (lruWay st.ways) := by
  cases hways : st.ways with
  | nil => simp [hways] at h
  | cons ln rest =>
    have hfirst : st.way 0 = ln := by simp [CacheSet.way, hways]
    have hone : st.leastStamp 1 0 := ⟨Nat.one_pos, fun w hw => by rw [Nat.lt_one_iff.mp hw], fun w hw => by cases hw⟩
    have hscan := CacheSet.lruScan_leastStamp (n := 1) (rest := rest) (by simp [hways]) hone
    rw [hfirst, Nat.add_comm] at hscan
    exact hscan

/-! ## The cases of the choice (R143) -/

theorem CacheSet.way_eq_getElem {st : CacheSet} {w : Nat} (hw : w < st.ways.length) : st.way w = st.ways[w] := by
  simp [CacheSet.way, hw]

section
variable {c : Config} {l : Level} {i : Nat} {m : MemSys}

theorem MemSys.line_eq_getElem {w : Nat} (hw : w < (m.setAt l i).ways.length) :
    m.line l i w = (m.setAt l i).ways[w] := CacheSet.way_eq_getElem hw

/-- A set without an invalid way is one whose every way is valid. -/
theorem MemSys.findIdx?_invalid_eq_none_iff : (m.setAt l i).ways.findIdx? (fun ln => !ln.valid) = none ↔
    ∀ w < (m.setAt l i).ways.length, (m.line l i w).valid = true := by
  rw [List.findIdx?_eq_none_iff, List.forall_mem_iff_getElem]
  refine forall₂_congr fun w hw => ?_
  rw [MemSys.line_eq_getElem hw, Bool.not_eq_false']

/-- The victim of a set with an invalid way is the lowest such way. -/
theorem victim_of_invalid {w : Nat} (hw : w < (m.setAt l i).ways.length) (hinvalid : (m.line l i w).valid = false) :
    (victim c l i m).1 < (m.setAt l i).ways.length ∧ (m.line l i (victim c l i m).1).valid = false ∧
      ∀ u < (victim c l i m).1, (m.line l i u).valid = true := by
  cases hfound : (m.setAt l i).ways.findIdx? (fun ln => !ln.valid) with
  | none =>
    rw [MemSys.findIdx?_invalid_eq_none_iff.mp hfound w hw] at hinvalid
    cases hinvalid
  | some v =>
    obtain ⟨hv, hat, hbefore⟩ := List.findIdx?_eq_some_iff_getElem.mp hfound
    rw [victim_invalid c l i m v hfound]
    refine ⟨hv, ?_, fun u hu => ?_⟩
    · simpa [MemSys.line_eq_getElem hv] using hat
    · simpa [MemSys.line_eq_getElem (hu.trans hv)] using hbefore u hu

variable (hfull : ∀ w < (m.setAt l i).ways.length, (m.line l i w).valid = true)
include hfull

theorem victim_lru (hrepl : c.repl.get l = .lru) : victim c l i m = (lruWay (m.setAt l i).ways, m) := by
  rw [victim, MemSys.findIdx?_invalid_eq_none_iff.mpr hfull, hrepl]

theorem victim_random (hrepl : c.repl.get l = .random) :
    (victim c l i m).1 = (m.victims.next Config.freeVictim).1 % c.assoc.get l := by
  rw [victim, MemSys.findIdx?_invalid_eq_none_iff.mpr hfull, hrepl]

end

/-- The victim is a way of the set under either policy. -/
theorem victim_lt_length {c : Config} {l : Level} {i : Nat} {m : MemSys}
    (hlength : (m.setAt l i).ways.length = c.assoc.get l) (hpos : 1 ≤ c.assoc.get l) :
    (victim c l i m).1 < (m.setAt l i).ways.length := by
  by_cases hfull : ∀ w < (m.setAt l i).ways.length, (m.line l i w).valid = true
  · cases hrepl : c.repl.get l with
    | lru =>
      rw [victim_lru hfull hrepl]
      exact lruWay_lt (hlength ▸ hpos)
    | random =>
      rw [victim_random hfull hrepl, hlength]
      exact Nat.mod_lt _ hpos
  · push Not at hfull
    obtain ⟨w, hw, hinvalid⟩ := hfull
    exact (victim_of_invalid hw (Bool.eq_false_iff.mpr hinvalid)).1

/-- Settles O27: the lowest invalid way, else the scan's way of least stamp, else the draw, which can be any way. -/
theorem victimChoice : Obligations.VictimChoice := by
  intro c l i m hlength hpos
  have hlt := victim_lt_length hlength hpos
  rw [← hlength] at hpos ⊢
  refine ⟨hlt, fun ⟨w, hw, hinvalid⟩ => (victim_of_invalid hw hinvalid).2, fun hfull hrepl => ?_,
    fun hfull hrepl w hw => ⟨w, ?_⟩⟩
  · rw [victim_lru hfull hrepl]
    exact (CacheSet.lruWay_leastStamp hpos).2
  · exact (victim_random (m := { m with victims := ⟨w :: m.victims.given, m.victims.count⟩ }) hfull hrepl).trans
      (Nat.mod_eq_of_lt (hlength ▸ hw))

end Sys2Proof.Machine
end

section
/-! PROOFS. Memory (40_cache_ops.md): the line addresses of the valid lines, and `C.VALIDATE` (R132, R151). -/

namespace Sys2Proof.Machine

/-- Lists put one after another repeat nothing where none of them does and no two have an element in common. -/
theorem nodup_flatMap_iff {α β : Type} {xs : List α} (h : xs.Nodup) (f : α → List β) : (xs.flatMap f).Nodup ↔
    (∀ x ∈ xs, (f x).Nodup) ∧ ∀ x ∈ xs, ∀ y ∈ xs, ∀ b ∈ f x, b ∈ f y → x = y := by
  have hsymm : Std.Symm (Function.onFun List.Disjoint f) := ⟨fun _ _ hdis => hdis.symm⟩
  rw [List.nodup_flatMap, ← h.pairwise_coe]
  refine and_congr_right fun _ => ⟨fun hdis x hx y hy b hbx hby => ?_, fun hinj x hx y hy hne b hbx hby => ?_⟩
  · by_contra hne
    exact hdis hx hy hne hbx hby
  · exact hne (hinj x hx y hy b hbx hby)

/-! ## One set -/

/-- The line addresses of the valid lines of a set (R132). -/
def MemSys.setAddrs (c : Config) (m : MemSys) (l : Level) (i : Nat) : List Word :=
  ((m.setAt l i).ways.filter (·.valid)).map (fun ln => c.compose l ln.tag i 0)

section
variable {c : Config} {m : MemSys} {l : Level}

theorem validAddrs_eq (c : Config) (l : Level) (m : MemSys) :
    validAddrs c l m = (List.range (m.level l).sets.length).flatMap (m.setAddrs c l) := by
  have hsets : (m.level l).sets.zipIdx = (List.range (m.level l).sets.length).map (fun i => (m.setAt l i, i)) := by
    refine List.ext_getElem (by simp) fun i hi _ => ?_
    have hlt : i < (m.level l).sets.length := by simpa using hi
    simp [MemSys.setAt, CacheLevel.setAt, hlt]
  rw [validAddrs, hsets, List.flatMap_map]
  rfl

theorem MemSys.mem_setAddrs {i : Nat} {b : Word} : b ∈ m.setAddrs c l i ↔
    ∃ w, (m.line l i w).valid = true ∧ c.compose l (m.line l i w).tag i 0 = b := by
  simp only [MemSys.setAddrs, List.mem_map, List.mem_filter]
  constructor
  · rintro ⟨ln, ⟨hmem, hvalid⟩, rfl⟩
    obtain ⟨w, hw, rfl⟩ := List.mem_iff_getElem.mp hmem
    rw [← MemSys.line_eq_getElem hw] at hvalid ⊢
    exact ⟨w, hvalid, rfl⟩
  · rintro ⟨w, hvalid, rfl⟩
    exact ⟨_, ⟨CacheSet.way_mem (MemSys.way_lt_of_valid hvalid), hvalid⟩, rfl⟩

/-- The valid ways of a set differ in a field where no two ways of the set have one value of it. -/
theorem distinctBy_iff_way {α : Type} (f : CacheLine → α) (st : CacheSet) : distinctBy f st.ways ↔
    ∀ w w', (st.way w).valid = true → (st.way w').valid = true → f (st.way w) = f (st.way w') → w = w' := by
  have hat : ∀ {w}, (st.way w).valid = true → st.ways[w]? = some (st.way w) := fun hv => by
    simp [CacheSet.way, CacheSet.way_lt_of_valid hv]
  refine ⟨fun h w w' hv hv' heq => ?_, fun h => List.pairwise_iff_getElem.mpr fun w w' hw hw' hlt hv hv' heq => ?_⟩
  · by_contra hne
    exact freeBut_of_distinctBy h (hat hv') hv' w _ (hat hv) hne hv heq
  · rw [← CacheSet.way_eq_getElem hw] at hv heq
    rw [← CacheSet.way_eq_getElem hw'] at hv' heq
    exact hlt.ne (h w w' hv hv' heq)

theorem MemSys.setAddrs_nodup_iff {i : Nat} : (m.setAddrs c l i).Nodup ↔
    ∀ w w', (m.line l i w).valid = true → (m.line l i w').valid = true →
      c.compose l (m.line l i w).tag i 0 = c.compose l (m.line l i w').tag i 0 → w = w' := by
  rw [MemSys.setAddrs, List.Nodup, List.pairwise_map, List.pairwise_filter]
  exact distinctBy_iff_way (fun ln => c.compose l ln.tag i 0) _

/-! ## One level -/

theorem mem_validAddrs {b : Word} : b ∈ validAddrs c l m ↔
    ∃ i w, (m.line l i w).valid = true ∧ c.compose l (m.line l i w).tag i 0 = b := by
  rw [validAddrs_eq]
  simp only [List.mem_flatMap, List.mem_range, MemSys.mem_setAddrs]
  exact exists_congr fun i => and_iff_right_of_imp fun ⟨_, hvalid, _⟩ => MemSys.set_lt_of_valid hvalid

theorem validAddrs_nodup_iff : (validAddrs c l m).Nodup ↔
    ∀ i i' w w', (m.line l i w).valid = true → (m.line l i' w').valid = true →
      c.compose l (m.line l i w).tag i 0 = c.compose l (m.line l i' w').tag i' 0 → i = i' ∧ w = w' := by
  rw [validAddrs_eq, nodup_flatMap_iff List.nodup_range]
  simp only [List.mem_range, MemSys.setAddrs_nodup_iff, MemSys.mem_setAddrs]
  constructor
  · rintro ⟨hways, hsets⟩ i i' w w' hv hv' heq
    have hi := MemSys.set_lt_of_valid hv
    obtain rfl : i = i' := hsets i hi i' (MemSys.set_lt_of_valid hv') _ ⟨w, hv, heq⟩ ⟨w', hv', rfl⟩
    exact ⟨rfl, hways i hi w w' hv hv' heq⟩
  · refine fun h => ⟨fun i _ w w' hv hv' heq => (h i i w w' hv hv' heq).2, ?_⟩
    rintro i _ i' _ _ ⟨w, hv, rfl⟩ ⟨w', hv', heq⟩
    exact (h i i' w w' hv hv' heq.symm).1

end

/-! ## The tracked levels and the command (R151) -/

theorem validateCoherency_iff (c : Config) (m : MemSys) : validateCoherency c m = true ↔
    ∀ (l l' : Level) (i i' w w' : Nat), c.tracked.get l = true → c.tracked.get l' = true →
      (m.line l i w).valid = true → (m.line l' i' w').valid = true →
      c.compose l (m.line l i w).tag i 0 = c.compose l' (m.line l' i' w').tag i' 0 → l = l' ∧ i = i' ∧ w = w' := by
  have hlevels : Level.all.Nodup := by decide
  have htracked : ∀ l, l ∈ Level.all.filter c.tracked.get ↔ c.tracked.get l = true := fun l => by
    cases l <;> simp [Level.all]
  rw [validateCoherency, decide_eq_true_eq, nodup_flatMap_iff (hlevels.filter _)]
  simp only [htracked, validAddrs_nodup_iff, mem_validAddrs]
  constructor
  · rintro ⟨hsame, hother⟩ l l' i i' w w' ht ht' hv hv' heq
    obtain rfl : l = l' := hother l ht l' ht' _ ⟨i, w, hv, heq⟩ ⟨i', w', hv', rfl⟩
    exact ⟨rfl, hsame l ht i i' w w' hv hv' heq⟩
  · refine fun h => ⟨fun l ht i i' w w' hv hv' heq => (h l l i i' w w' ht ht hv hv' heq).2, ?_⟩
    rintro l ht l' ht' _ ⟨i, w, hv, rfl⟩ ⟨i', w', hv', heq⟩
    exact (h l l' i i' w w' ht ht' hv hv' heq.symm).1

/-- Settles O26: the answer is whether the list of line addresses of valid lines repeats none, which is said way by way. -/
theorem validateAnswers : Obligations.ValidateAnswers := by
  intro s
  refine ⟨if validateCoherency s.cfg s.sys then 1 else 0, rfl, ite_eq_or_eq _ _ _, ?_⟩
  rw [← validateCoherency_iff]
  cases validateCoherency s.cfg s.sys <;> simp

end Sys2Proof.Machine
end

section
/-! PROOFS. Stages (41_stage_ops.md): the commands on a stage (R171 to R173, R179 to R181, R201), and what the gate admits
(R185). -/

namespace Sys2Proof.Machine

/-! ## Decode's worker and the instruction words -/

/-- Settles O5: the two are one iteration of Decode's worker, on the record's own word. -/
theorem decodeStepRunsWord : Obligations.DecodeStepRunsWord := fun _ _ h => (exec_decodeWord_head h).symm

/-! ## The meanings of the stage commands, case by case -/

section
variable {s : State} {id : StageId}

theorem execSSubmit_accepted (r : InstrRecord) (h : s.accepts id) :
    exec (.sSubmit id r) s = .next (s.setStage id ((s.stage id).accept r)).okay := by
  have hsubmit := s.submit_accepted id r ((s.admits_iff id).mpr h)
  simp [exec, execSSubmit, hsubmit]

theorem execSSubmit_rejected (r : InstrRecord) (h : ¬ s.accepts id) :
    exec (.sSubmit id r) s = .next { (s.setStage id (s.stage id).reject).emit (.backpressure id) with
      resp := some ⟨.rejected, 0, []⟩ } := by
  have hsubmit := s.submit_rejected id r (Bool.eq_false_iff.mpr fun hadm => h ((s.admits_iff id).mp hadm))
  simp [exec, execSSubmit, hsubmit]

theorem execSInit_running (h : (s.stages.get id).life = .running) :
    exec (.sInit id) s = .next (s.refuse .errState) := congrArg _ (if_pos ((s.running_iff id).mpr h))

theorem execSInit_idle (h : (s.stages.get id).life ≠ .running) :
    exec (.sInit id) s = .next (s.initStage id).okay := congrArg _ (if_neg fun hrun => h ((s.running_iff id).mp hrun))

theorem execSStart_ready (h : (s.stages.get id).life = .ready) :
    exec (.sStart id) s = .next (s.startStage id).okay := congrArg _ (if_pos h)

theorem execSStart_other (h : (s.stages.get id).life ≠ .ready) :
    exec (.sStart id) s = .next (s.refuse .errState) := congrArg _ (if_neg h)

theorem execSShutdown_live (h : (s.stages.get id).life ≠ .stopped) :
    exec (.sShutdown id) s = .next (s.shutdownStage id).okay := congrArg _ (if_neg h)

theorem execSShutdown_stopped (h : (s.stages.get id).life = .stopped) :
    exec (.sShutdown id) s = .next (s.refuse .errState) := congrArg _ (if_pos h)

theorem execSFlush_running (h : (s.stages.get id).life = .running) :
    exec (.sFlush id) s = .next (s.setStage id { s.stage id with flushFlag := true }).okay :=
  congrArg _ (if_pos ((s.running_iff id).mpr h))

theorem execSFlush_idle (h : (s.stages.get id).life ≠ .running) :
    exec (.sFlush id) s = .next (s.refuse .errState) := congrArg _ (if_neg fun hrun => h ((s.running_iff id).mp hrun))

/-- All that `S.INIT` does to a stage that is not Running (R171). -/
theorem State.initStage_eq (s : State) (id : StageId) : s.initStage id = { s with
    stages := s.stages.set id { resetStage s.cfg id with life := .ready }
    fetch := if id = .f then resetFetch s.cfg s.fetch.nextPC else s.fetch
    ex := if id = .e then resetExec else s.ex
    wb := if id = .w then resetWb else s.wb } := by cases id <;> rfl

/-- All that `S.SHUTDOWN` does to a stage that is not Stopped (R180). -/
theorem State.shutdownStage_eq (s : State) (id : StageId) : s.shutdownStage id = { s with
    stages := s.stages.set id { s.stages.get id with
      queue := [], stats := { (s.stages.get id).stats with queueDepth := 0 },
      freePermits := (s.stages.get id).maxInFlight, flushFlag := false, life := .stopped }
    ex := if id = .e then { s.ex with pendingHeavy := [] } else s.ex
    events := s.events ++ [.stageStopped id] } := by cases id <;> rfl

end

/-! ## Submitting, initialising, starting, stopping and flushing a stage -/

/-- Settles O28: the two branches of the submit. -/
theorem submitRule : Obligations.SubmitRule := by
  intro id r s
  refine ⟨fun a b => ?_, execSSubmit_accepted r, execSSubmit_rejected r⟩
  refine (decodePacket_stageCW (op := 2) (id := id) (by cases id <;> rfl)).trans ?_
  simp [decodeStageUnit, decodeSubmit]

/-- Settles O30: a stage that is not Running is made anew, and with it the state that is the stage's own. -/
theorem initStage : Obligations.InitStage := by
  intro id s
  refine ⟨execSInit_running, fun hidle => ?_⟩
  rw [execSInit_idle hidle, s.initStage_eq]
  rfl

/-- Settles O31: each command's accepted and refused case, and the command words. -/
theorem stageCommands : Obligations.StageCommands := by
  intro id s
  refine ⟨by cases id <;> rfl, by cases id <;> rfl, by cases id <;> rfl, rfl, execSStart_ready, execSStart_other,
    fun hlive => ?_, execSShutdown_stopped, execSFlush_running, execSFlush_idle, rfl⟩
  rw [execSShutdown_live hlive, s.shutdownStage_eq]
  rfl

/-! ## The gate as a count (R185) -/

theorem State.arbiterGood.queue_le {s : State} (h : s.arbiterGood) (id : StageId) :
    (s.stages.get id).queue.length ≤ min (s.stages.get id).maxInFlight (s.cfg.queueCap.get id) := by
  obtain ⟨hgate, -, hcap, -⟩ : (s.stages.get id).good (s.cfg.queueCap.get id) := h.1 id
  exact le_min (by omega) hcap

/-- A list of instructions for which a stage has permits and room is admitted whole, in order (R173, R185). -/
theorem runInstrs_submits (id : StageId) : ∀ (rs : List InstrRecord) (s : State), (s.stages.get id).life = .running →
    rs.length ≤ (s.stages.get id).freePermits →
    (s.stages.get id).queue.length + rs.length ≤ s.cfg.queueCap.get id →
    ∃ t, runInstrs (rs.map (.sSubmit id)) s = some t ∧ (t.stages.get id).life = .running ∧
      (t.stages.get id).queue = (s.stages.get id).queue ++ rs ∧
      (t.stages.get id).freePermits + rs.length = (s.stages.get id).freePermits ∧ t.events = s.events ∧
      (t.stages.get id).stats.backpressureEvents = (s.stages.get id).stats.backpressureEvents
  | [], s, hrun, _, _ => ⟨s, rfl, hrun, (List.append_nil _).symm, rfl, rfl, rfl⟩
  | r :: rs, s, hrun, hfree, hroom => by
    rw [List.length_cons] at hfree hroom
    have hexec := execSSubmit_accepted (s := s) (id := id) r ⟨hrun, by omega, by omega⟩
    generalize hu : (s.setStage id ((s.stage id).accept r)).okay = u at hexec
    have hstage : u.stages.get id = (s.stages.get id).accept r := hu ▸ StageMap.get_set_same _ _ _
    have hqueue : (u.stages.get id).queue = (s.stages.get id).queue ++ [r] := by rw [hstage]; rfl
    have hperm : (u.stages.get id).freePermits = (s.stages.get id).freePermits - 1 := by rw [hstage]; rfl
    have hcap : u.cfg = s.cfg := hu ▸ rfl
    obtain ⟨t, hrest, hlife, htq, htf, hev, hback⟩ := runInstrs_submits id rs u (by rw [hstage]; exact hrun)
      (by omega) (by rw [hqueue, hcap, List.length_append, List.length_singleton]; omega)
    refine ⟨t, ?_, hlife, by rw [htq, hqueue, List.append_assoc]; rfl, by rw [List.length_cons]; omega,
      by rw [hev, ← hu]; rfl, by rw [hback, hstage]; rfl⟩
    simpa only [List.map_cons, runInstrs, hexec, nextOf, Option.bind_some] using hrest

/-- Settles O29: the first N submits take every permit, so that the next one is rejected; and a good state's count bounds every
queue. -/
theorem admissionProperty : Obligations.AdmissionProperty := by
  refine ⟨fun s id rs r hrun hempty hfull hlen hroom => ?_, fun s t id hgood hstep =>
    (stepKeepsArbiter s t hgood hstep).queue_le id⟩
  obtain ⟨t, hruns, hlife, hqueue, hfree, hev, hback⟩ := runInstrs_submits id rs s hrun (by omega)
    (by rw [hempty, List.length_nil]; omega)
  rw [hempty, List.nil_append] at hqueue
  have hnone : (t.stages.get id).freePermits = 0 := by omega
  refine ⟨t, _, hruns, execSSubmit_rejected r fun ⟨_, hsome, _⟩ => hsome hnone, hqueue, hnone, hev, hback, ?_, rfl, ?_, ?_⟩
  · simpa [Stage.reject, State.stage] using hqueue
  · simp [hev]
  · simp [Stage.reject, State.stage, hback]

/-! ## Resizing the gate (R179) -/

section
variable {s : State} {id : StageId} {n : Word}

theorem execSAdjust_refused {e : Status} (h : s.adjustRefusal id n.toNat = some e) :
    exec (.sAdjust id n) s = .next (s.refuse e) := by simp [exec, execSAdjust, h]

theorem execSAdjust_resize (h : s.adjustRefusal id n.toNat = none) : exec (.sAdjust id n) s =
    .next ((s.resize id n.toNat).answer (low64 ((s.resize id n.toNat).stage id).maxInFlight) []) := by
  simp [exec, execSAdjust, h]

theorem State.adjustRefusal_live (s : State) {id : StageId} {n : Nat} (hlife : (s.stages.get id).life ≠ .stopped)
    (hn : n ≠ 0) : s.adjustRefusal id n = none := by
  simp [State.adjustRefusal, State.stage, hlife, hn]

/-- A shrink takes back the drawn number of permits, modulo one more than it can (R179). -/
theorem execSAdjust_shrink (hlife : (s.stages.get id).life ≠ .stopped) (hn : n ≠ 0)
    (hless : n.toNat < (s.stages.get id).maxInFlight) : exec (.sAdjust id n) s =
      .next ((s.draw.2.setStage id ((s.stage id).shrink (s.draw.1 % ((s.stage id).shrinkMax n.toNat + 1)))).answer
        (low64 ((s.stage id).maxInFlight - s.draw.1 % ((s.stage id).shrinkMax n.toNat + 1))) []) := by
  have hpos : n.toNat ≠ 0 := fun h => hn (BitVec.eq_of_toNat_eq h)
  rw [execSAdjust_resize (s.adjustRefusal_live hlife hpos), s.resize_shrink id _ (Nat.not_le.mpr hless),
    State.setStage_stage_same]
  rfl

end

/-- Settles O32: the refusals in order, the growth, and the shrink by whatever number is drawn. -/
theorem adjustGate : Obligations.AdjustGate := by
  intro id n s
  refine ⟨fun hstop => execSAdjust_refused (if_pos hstop), fun hlive hn => execSAdjust_refused ?_,
    fun hlive hn hle => ?_, fun hlive hn hlt => ⟨?_, fun k hk => ⟨k, ?_⟩⟩⟩
  · exact (if_neg hlive).trans (if_pos (congrArg BitVec.toNat hn))
  · have hpos : n.toNat ≠ 0 := fun h => hn (BitVec.eq_of_toNat_eq h)
    have hlimit : low64 ((s.stage id).grow n.toNat).maxInFlight = n := by simp [low64, Stage.grow]
    rw [execSAdjust_resize (s.adjustRefusal_live hlive hpos), s.resize_grow id _ hle, State.setStage_stage_same, hlimit]
    rfl
  · exact ⟨_, Nat.lt_succ_iff.mp (Nat.mod_lt _ (Nat.succ_pos _)), execSAdjust_shrink hlive hn hlt⟩
  · have hdraw : k % (((s.stage id).shrinkMax n.toNat) + 1) = k := Nat.mod_eq_of_lt (Nat.lt_succ_iff.mpr hk)
    refine (execSAdjust_shrink (s := s.supplied k) hlive hn hlt).trans ?_
    rw [s.supplied_draw k, show (s.supplied k).stage id = s.stage id from rfl, hdraw]
    rfl

end Sys2Proof.Machine
end

section
/-! PROOFS. Stages (41_stage_ops.md, 43_decode.md, 44_execute.md): an iteration of the worker of Decode, Execute or Writeback
(R174 to R178, R182), what it is of a Decode word (R220), and what Execute does with an instruction (R240 to R254). -/

namespace Sys2Proof.Machine

/-! ## The iteration (R174) -/

theorem execSStep_running {s : State} {id : StageId} (h : (s.stages.get id).life = .running) :
    exec (.sStep id) s = .next (s.workerStep id).okay := congrArg _ (if_pos ((s.running_iff id).mpr h))

theorem execSStep_idle {s : State} {id : StageId} (h : (s.stages.get id).life ≠ .running) :
    exec (.sStep id) s = .next (s.refuse .errState) := congrArg _ (if_neg fun hrun => h ((s.running_iff id).mp hrun))

/-- The worker of a stage other than Fetch works on its queue (R174). -/
theorem State.workerStep_queue (s : State) {id : StageId} (h : id ≠ .f) : ∃ p, s.workerStep id = s.iterate id p := by
  cases id with
  | f => exact absurd rfl h
  | d | e | w => exact ⟨_, rfl⟩

/-- The controller's answer to an acknowledgement: one fewer pending, or, at the last one, Running again (R291, R292). -/
theorem CtrlState.flushAck_eq (k : CtrlState) : k.flushAck =
    if k.pstate = .flushing ∧ 1 < k.pendingFlush then { k with pendingFlush := k.pendingFlush - 1 }
    else if k.pstate = .flushing ∧ k.pendingFlush = 1 then
      { k with pendingFlush := 0, pstate := .running, recovering := false }
    else k := by
  by_cases hmore : k.pstate = .flushing ∧ 1 < k.pendingFlush
  · rw [if_pos hmore, k.flushAck_more hmore.1 hmore.2]
  · rw [if_neg hmore]
    by_cases hlast : k.pstate = .flushing ∧ k.pendingFlush = 1
    · rw [if_pos hlast, k.flushAck_last hlast.1 hlast.2]
    · rw [if_neg hlast, k.flushAck_ignored fun ⟨hp, hpos⟩ => hlast ⟨hp, by
        have : ¬ 1 < k.pendingFlush := fun h => hmore ⟨hp, h⟩
        omega⟩]

/-- All that a worker's flush does: the queue discarded, its permits back, and an acknowledgement (R182, R291). -/
theorem State.flushHere_eq (s : State) (id : StageId) : s.flushHere id = { s with
    stages := s.stages.set id { s.stages.get id with
      queue := [], freePermits := (s.stages.get id).freePermits + (s.stages.get id).queue.length, flushFlag := false,
      stats := { (s.stages.get id).stats with queueDepth := 0 } }
    ctrl := s.ctrl.flushAck } := rfl

/-- Settles O33: the three branches of an iteration that processes nothing. -/
theorem workerIdleAndFlush : Obligations.WorkerIdleAndFlush := by
  intro id s
  refine ⟨execSStep_idle, fun hid hrun hflag => ?_, fun hid hrun hflag hempty hfree => ?_⟩
  · obtain ⟨p, hworker⟩ := s.workerStep_queue hid
    rw [execSStep_running hrun, hworker, s.iterate_flush id p hflag, s.flushHere_eq, s.ctrl.flushAck_eq]
    rfl
  · obtain ⟨p, hworker⟩ := s.workerStep_queue hid
    have hstall : s.timeout id = s.stall id := if_pos hfree
    rw [execSStep_running hrun, hworker, s.iterate_empty id p hflag hempty, hstall]
    rfl

/-! ## An iteration on an instruction (R175, R178) -/

/-- The state a worker's `process` starts from: the instruction off the queue, the time of the call drawn (R175, R187). -/
def State.processing (s : State) (id : StageId) (rest : List InstrRecord) : State :=
  { s with stages := s.stages.set id ((s.stages.get id).taken rest), draws := s.restDraws }

theorem downstream_ne {id next : StageId} (h : downstream id = some next) : next ≠ id := by
  cases id <;> cases h <;> decide

section
variable {s s' : State} {id : StageId} {p : Process} {r : InstrRecord} {rest : List InstrRecord}

theorem State.dequeue_draw (hwork : s.worksOn id r rest) :
    (s.dequeue id).draw = (s.nextDraw, s.processing id rest) := by
  obtain ⟨-, -, hqueue⟩ := hwork
  simp [State.dequeue, State.draw, State.nextDraw, State.processing, State.restDraws, Stage.taken, State.setStage,
    State.stage, hqueue]

/-- Counting the instruction and returning its permit complete the record of the stage (R175). -/
theorem State.finish_eq (hstages : s'.stages = (s.processing id rest).stages) (m : StageMap Stage)
    (hm : m.get id = (s'.countProcessed id s.nextDraw).stages.get id) (evs : List Event) :
    ({ s'.countProcessed id s.nextDraw with stages := m, events := evs } : State).releasePermit id =
      { s' with stages := m.set id ((s.stages.get id).worked rest s.nextDraw), events := evs } := by
  simp only [State.releasePermit, State.countProcessed, State.setStage, State.stage] at hm ⊢
  rw [hm, hstages]
  simp [State.processing, Stage.taken, Stage.worked]

/-- What a worker's iteration does where `process` outputs a record: the stage downstream takes it or drops it. -/
theorem State.iterate_output {next : StageId} {x : InstrRecord} (hwork : s.worksOn id r rest)
    (hnext : downstream id = some next) (hprocess : p r (s.processing id rest) = (.output x, s')) (hcfg : s'.cfg = s.cfg)
    (hstages : s'.stages = (s.processing id rest).stages) :
    s.iterate id p = { s' with
      stages := (s.stages.set id ((s.stages.get id).worked rest s.nextDraw)).set next (s.receiving next x)
      events := s'.events ++ s.dropEvents next } := by
  have hne := downstream_ne hnext
  have hsame : (s'.countProcessed id s.nextDraw).stages.get next = s.stages.get next := by
    simp [State.countProcessed, hstages, State.processing, StageMap.get_set_ne _ _ hne]
  have hcfg' : (s'.countProcessed id s.nextDraw).cfg = s.cfg := hcfg
  have ⟨_, hflag, hqueue⟩ := hwork
  rw [s.iterate_work id p hflag hqueue,
    s.work_output id p r x s' (by rw [State.dequeue_draw hwork]; exact hprocess), State.dequeue_draw hwork,
    State.forward_eq _ x hnext, State.receiving_congr x hsame hcfg', State.dropEvents_congr hsame hcfg',
    State.finish_eq hstages _ (StageMap.get_set_ne _ _ hne.symm)]
  have hcomm : ∀ (m : StageMap Stage) (a b c : Stage),
      ((m.set id a).set next b).set id c = (m.set id c).set next b := by
    cases id <;> cases hnext <;> intros <;> rfl
  simp only [State.countProcessed, State.setStage_stages, hstages, State.processing, StageMap.set_set, hcomm]
  rfl

/-- What a worker's iteration does where `process` outputs nothing. -/
theorem State.iterate_noOutput (hwork : s.worksOn id r rest)
    (hprocess : p r (s.processing id rest) = (.noOutput, s')) (hstages : s'.stages = (s.processing id rest).stages) :
    s.iterate id p = { s' with stages := s.stages.set id ((s.stages.get id).worked rest s.nextDraw) } := by
  have ⟨_, hflag, hqueue⟩ := hwork
  rw [s.iterate_work id p hflag hqueue,
    s.work_noOutput id p r s' (by rw [State.dequeue_draw hwork]; exact hprocess), State.dequeue_draw hwork]
  refine (State.finish_eq hstages _ rfl s'.events).trans ?_
  simp [State.countProcessed, hstages, State.processing]

end

/-! ## Decode (R220) -/

/-- Settles O34: an iteration of Decode's worker with this word in place of the record's own. -/
theorem decodeWordForwards : Obligations.DecodeWordForwards := by
  intro i w s r rest hencode hwork
  have hstep : exec i s = .next { s with
      stages := { s.stages with d := s.stages.d.worked rest s.nextDraw, e := s.receiving .e (decodeRecord s.cfg w r) }
      events := s.events ++ s.dropEvents .e, draws := s.restDraws, resp := replyOk } := by
    have hprocess : processWord w r (s.processing .d rest) = (.output (decodeRecord s.cfg w r), s.processing .d rest) := rfl
    rw [exec_of_encode hencode, State.decodeStep, if_pos ((s.running_iff .d).mpr hwork.1),
      State.iterate_output hwork rfl hprocess rfl rfl]
    rfl
  rw [hstep]
  constructor
  · intro haccept
    simp only [State.receiving, State.dropEvents, if_pos haccept, List.append_nil]
    rfl
  · intro hreject
    simp only [State.receiving, State.dropEvents, if_neg hreject]
    rfl

/-! ## Execute: the execution unit's results (R242, R249) -/

/-- The execution unit changes registers, caches and memory alone (R242). -/
theorem execUnit_eq {r : InstrRecord} {s s' : State} {out : UnitOutcome} (h : execUnit r s = (out, s')) :
    s' = { s with sys := s'.sys, ints := s'.ints, floats := s'.floats } := by
  obtain ⟨hcfg, hstages, hfetch, hex, hwb, hctrl, hevents, hjit, hport, hresp, hdraws⟩ := h ▸ execUnit_frame s r
  cases s'
  simp_all

section
variable {r : InstrRecord} {s s' : State}

/-- A fault of the execution unit, counted and published (R249). -/
theorem executeInline_fault_eq (h : execUnit r s = (.fault, s')) : executeInline r s = ({ r with executed := false }, { s' with
    ex := { s.ex with executionExceptions := s.ex.executionExceptions + 1 }
    events := s.events ++ [.executionException r.pc] }) := by
  rw [executeInline_fault r s s' h, execUnit_eq h]
  rfl

/-- The interpreted path of an instruction that is not Heavy is its inline execution (R240, R241). -/
theorem interpretE_inline {x : InstrRecord} (hcost : s.cfg.costClass r.cls r.opcode r.func ≠ .heavy)
    (h : executeInline { r with cost := s.cfg.costClass r.cls r.opcode r.func } s = (x, s')) :
    interpretE r s = (.output x, s') :=
  (if_neg hcost).trans (by rw [h])

theorem interpretE_done {res : ExecResult} (hcost : s.cfg.costClass r.cls r.opcode r.func ≠ .heavy)
    (h : execUnit { r with cost := s.cfg.costClass r.cls r.opcode r.func } s = (.done res, s')) :
    interpretE r s = (.output (completedWith { r with cost := s.cfg.costClass r.cls r.opcode r.func } res), s') :=
  interpretE_inline hcost (executeInline_done _ s s' res h)

theorem interpretE_fault (hcost : s.cfg.costClass r.cls r.opcode r.func ≠ .heavy)
    (h : execUnit { r with cost := s.cfg.costClass r.cls r.opcode r.func } s = (.fault, s')) :
    interpretE r s = (.output { r with cost := s.cfg.costClass r.cls r.opcode r.func, executed := false }, { s' with
      ex := { s.ex with executionExceptions := s.ex.executionExceptions + 1 }
      events := s.events ++ [.executionException r.pc] }) :=
  interpretE_inline hcost (executeInline_fault_eq h)

/-- The interpreted path of a Heavy instruction (R240, R246). -/
theorem interpretE_heavy (h : s.cfg.costClass r.cls r.opcode r.func = .heavy) : interpretE r s =
    (.noOutput, s.dispatchHeavy { r with cost := s.cfg.costClass r.cls r.opcode r.func }) := if_pos h

theorem processE_plain (hvalid : r.valid = true) (hdecoded : r.decoded = true) (hvariant : s.cfg.execVariant = .plain) :
    processE r s = interpretE r s := by simp [processE, executable, hvalid, hdecoded, hvariant]

theorem processE_hybrid (hvalid : r.valid = true) (hdecoded : r.decoded = true) (hvariant : s.cfg.execVariant = .hybrid) :
    processE r s = hybridE r s := by simp [processE, executable, hvalid, hdecoded, hvariant]

theorem processE_passes (h : r.valid = false ∨ r.decoded = false) : processE r s = (.output r, s) := by
  rcases h with h | h <;> simp [processE, executable, h]

end

/-! ## Execute's worker -/

section
variable {s s' : State} {r x : InstrRecord} {rest : List InstrRecord}

/-- A step of Execute that outputs: the record is forwarded to Writeback, or dropped there (R175, R178). -/
theorem execSStep_execute_output (hwork : s.worksOn .e r rest)
    (hprocess : processE r (s.processing .e rest) = (.output x, s')) :
    exec (.sStep .e) s = .next { s' with
      stages := { s.stages with e := s.stages.e.worked rest s.nextDraw, w := s.receiving .w x }
      events := s'.events ++ s.dropEvents .w
      resp := replyOk } := by
  obtain ⟨hcfg, hstages, -⟩ := hprocess ▸ processE_frame (s.processing .e rest) r
  rw [execSStep_running hwork.1, show s.workerStep .e = s.iterate .e processE from rfl]
  exact congrArg (fun t : State => Host.Outcome.next t.okay) (State.iterate_output hwork rfl hprocess hcfg hstages)

/-- A step of Execute that outputs nothing. -/
theorem execSStep_execute_noOutput (hwork : s.worksOn .e r rest)
    (hprocess : processE r (s.processing .e rest) = (.noOutput, s')) :
    exec (.sStep .e) s = .next { s' with
      stages := { s.stages with e := s.stages.e.worked rest s.nextDraw }
      resp := replyOk } := by
  obtain ⟨-, hstages, -⟩ := hprocess ▸ processE_frame (s.processing .e rest) r
  rw [execSStep_running hwork.1, show s.workerStep .e = s.iterate .e processE from rfl]
  exact congrArg (fun t : State => Host.Outcome.next t.okay) (State.iterate_noOutput hwork hprocess hstages)

end

/-- Settles O36: the plain `process` function is the execution unit's run, completed or faulted, or the record as it came. -/
theorem executeInline_holds : Obligations.ExecuteInline := by
  intro s r rest hwork
  refine ⟨fun hvariant hvalid hdecoded hcost => ?_, fun hpass => ?_⟩
  · have hplain := processE_plain (s := s.processing .e rest) hvalid hdecoded hvariant
    refine ⟨fun res s2 hdone => ?_, fun s2 hfault => ?_⟩
    · rw [execSStep_execute_output hwork (hplain.trans (interpretE_done hcost hdone)), execUnit_eq hdone]
      rfl
    · rw [execSStep_execute_output hwork (hplain.trans (interpretE_fault hcost hfault)), execUnit_eq hfault]
      rfl
  · rw [execSStep_execute_output hwork (processE_passes hpass)]
    rfl

/-! ## Heavy operations (R246, R247) -/

/-- No two pending heavy operations share an id, so the pool gives back the one it holds under an id (R40). -/
theorem ExecState.pending_of_mem {x : ExecState} {id : Nat} {r : InstrRecord}
    (hids : x.pendingHeavy.Pairwise (fun p q => p.1 ≠ q.1)) (hmem : (id, r) ∈ x.pendingHeavy) : x.pending id = some r := by
  obtain ⟨q, hq⟩ : ∃ q, x.pendingHeavy.find? (fun p => p.1 == id) = some q :=
    Option.isSome_iff_exists.mp (List.find?_isSome.mpr ⟨_, hmem, beq_self_eq_true id⟩)
  have hsame : q.1 = id := by simpa using List.find?_some hq
  have hnodup : (x.pendingHeavy.map Prod.fst).Nodup := List.pairwise_map.mpr hids
  have : q = (id, r) := List.inj_on_of_nodup_map hnodup (List.mem_of_find?_eq_some hq) hmem hsame
  rw [ExecState.pending, hq, this]
  rfl

theorem ExecState.pending_eq_none {x : ExecState} {id : Nat} (h : ∀ p ∈ x.pendingHeavy, p.1 ≠ id) :
    x.pending id = none := by
  rw [ExecState.pending, List.find?_eq_none.mpr fun p hp => by simpa using h p hp]
  rfl

theorem execXComplete_pending {s : State} {id : Word} {r : InstrRecord} (h : s.ex.pending id.toNat = some r) :
    exec (.xComplete id) s = .next (s.completeHeavy id.toNat r).okay := by simp [exec, execXComplete, h]

theorem execXComplete_absent {s : State} {id : Word} (h : s.ex.pending id.toNat = none) :
    exec (.xComplete id) s = .next (s.refuse .errState) := by simp [exec, execXComplete, h]

/-- A heavy operation completes: it executes, and its record goes to Writeback or is dropped there (R178, R247). -/
theorem State.completeHeavy_eq {s s' : State} {id : Nat} {r x : InstrRecord} (h : executeInline r (s.takeHeavy id) = (x, s')) :
    s.completeHeavy id r = { s' with
      stages := { s.stages with w := s.receiving .w x }, events := s'.events ++ s.dropEvents .w } := by
  obtain ⟨hcfg, hstages, -⟩ := h ▸ executeInline_frame (s.takeHeavy id) r
  have hw : s'.stages.get .w = s.stages.get .w := congrArg (·.get .w) hstages
  have hfwd : s'.forward .e x = _ := s'.forward_eq x rfl
  rw [State.completeHeavy, h, hfwd, State.receiving_congr x hw hcfg, State.dropEvents_congr hw hcfg, hstages]
  rfl

/-- Settles O39: the plain interpreted path of a Heavy instruction, then its execution when it is named. -/
theorem heavyOperations : Obligations.HeavyOperations := by
  refine ⟨fun s r rest hwork hvariant hvalid hdecoded hcost => ?_, fun s id r s2 hgood hmem => ?_,
    fun s id hnone => execXComplete_absent (ExecState.pending_eq_none hnone)⟩
  · have hplain := processE_plain (s := s.processing .e rest) hvalid hdecoded hvariant
    rw [execSStep_execute_noOutput hwork (hplain.trans (interpretE_heavy hcost)), ← hcost]
    rfl
  · have hpending := execXComplete_pending (ExecState.pending_of_mem hgood.1 hmem)
    refine ⟨fun res hdone => ?_, fun hfault => ?_⟩
    · rw [hpending, State.completeHeavy_eq (executeInline_done _ _ s2 res hdone), execUnit_eq hdone]
      rfl
    · rw [hpending, State.completeHeavy_eq (executeInline_fault_eq hfault), execUnit_eq hfault]
      rfl

/-! ## The Hybrid variant (R240, R253, R254) -/

section
variable {r : InstrRecord} {s t : State}

theorem hybridE_interpret (h : s.tierStep r = (.interpret, t)) : hybridE r s = interpretE r t := by simp [hybridE, h]

theorem hybridE_profile (h : s.tierStep r = (.profile, t)) : hybridE r s = interpretE r (t.recordExecution r) := by
  simp [hybridE, h]

theorem hybridE_compiled {res : ExecResult} {u : State} (h : s.tierStep r = (.compiled, t))
    (htry : t.tryCompiled r = (some res, u)) : hybridE r s = (.output (complete r res), u) := by simp [hybridE, h, htry]

theorem hybridE_missed {u : State} (h : s.tierStep r = (.compiled, t)) (htry : t.tryCompiled r = (none, u)) :
    hybridE r s = interpretE r { u with ex := { u.ex with jitMisses := u.ex.jitMisses + 1 } } := by simp [hybridE, h, htry]

/-- The compiled block runs as the execution unit does, where one is to be had (R253). -/
theorem State.tryCompiled_done {res : ExecResult} {u : State} (hdraw : t.nextDraw % 2 = 1)
    (hunit : execUnit r { t with draws := t.restDraws } = (.done res, u)) : t.tryCompiled r = (some res, u) := by
  have hyes : drawnBool t.draw.1 = true := beq_iff_eq.mpr hdraw
  have hrun : execUnit r t.draw.2 = (.done res, u) := hunit
  simp [State.tryCompiled, hyes, hrun]

theorem State.tryCompiled_fault {u : State} (hdraw : t.nextDraw % 2 = 1)
    (hunit : execUnit r { t with draws := t.restDraws } = (.fault, u)) : t.tryCompiled r = (none, t.draw.2) := by
  have hyes : drawnBool t.draw.1 = true := beq_iff_eq.mpr hdraw
  have hrun : execUnit r t.draw.2 = (.fault, u) := hunit
  simp [State.tryCompiled, hyes, hrun]

theorem State.tryCompiled_none (hdraw : t.nextDraw % 2 ≠ 1) : t.tryCompiled r = (none, t.draw.2) :=
  if_neg fun h => hdraw (beq_iff_eq.mp h)

end

/-! ## Execute's `process` function never throws (R240) -/

/-- The answer of a `process` function that does not throw. -/
def ProcessResult.Answers (out : ProcessResult × State) : Prop :=
  (∃ x t, out = (.output x, t)) ∨ ∃ t, out = (.noOutput, t)

theorem interpretE_answers (r : InstrRecord) (s : State) : ProcessResult.Answers (interpretE r s) := by
  by_cases hcost : s.cfg.costClass r.cls r.opcode r.func = .heavy
  · exact .inr ⟨_, interpretE_heavy hcost⟩
  · exact .inl ⟨_, _, interpretE_inline hcost rfl⟩

theorem hybridE_answers (r : InstrRecord) (s : State) : ProcessResult.Answers (hybridE r s) := by
  rcases hstep : s.tierStep r with ⟨mode, t⟩
  cases mode with
  | interpret => exact hybridE_interpret hstep ▸ interpretE_answers r _
  | profile => exact hybridE_profile hstep ▸ interpretE_answers r _
  | compiled =>
    rcases htry : t.tryCompiled r with ⟨got, u⟩
    cases got with
    | none => exact hybridE_missed hstep htry ▸ interpretE_answers r _
    | some res => exact .inl ⟨_, _, hybridE_compiled hstep htry⟩

/-- Settles O41: the step by what `process` answers, and `process` by the mode, the compiled block and the cost class. -/
theorem hybridPaths : Obligations.HybridPaths := by
  refine ⟨fun s r rest hwork hvariant hvalid hdecoded => ?_, fun r s t mode hstep => ?_, fun r s => ?_⟩
  · have hhybrid := processE_hybrid (s := s.processing .e rest) hvalid hdecoded hvariant
    rcases hybridE_answers r (s.processing .e rest) with ⟨x, s2, hout⟩ | ⟨s2, hout⟩
    · exact .inl ⟨x, s2, hout, execSStep_execute_output hwork (hhybrid.trans hout)⟩
    · exact .inr ⟨s2, hout, execSStep_execute_noOutput hwork (hhybrid.trans hout)⟩
  · refine ⟨?_, ?_, ?_, ?_, ?_⟩
    · rintro rfl
      exact hybridE_interpret hstep
    · rintro rfl
      exact hybridE_profile hstep
    · rintro rfl hdraw res s2 hunit
      exact hybridE_compiled hstep (State.tryCompiled_done hdraw hunit)
    · rintro rfl hdraw ⟨s2, hunit⟩
      exact hybridE_missed hstep (State.tryCompiled_fault hdraw hunit)
    · rintro rfl hdraw
      exact hybridE_missed hstep (State.tryCompiled_none hdraw)
  · exact ⟨fun hcost => interpretE_heavy hcost, fun hcost res s2 hdone => interpretE_done hcost hdone,
      fun hcost s2 hfault => interpretE_fault hcost hfault⟩

end Sys2Proof.Machine
end

section
/-! PROOFS. Fetch (42_fetch.md): the fetch cache as what its lookups give (R204), the prefetch (R207), and the iteration that
hits or misses (R200, R203 to R206). -/

namespace Sys2Proof.Machine

/-! ## The lookups of the fetch cache (R204) -/

/-- The word a line of the fetch cache gives for a tag and a slot (R204; conflict C3). -/
def FcEntry.word (e : FcEntry) (tag : Word) (j : Nat) : Option IWord :=
  if e.valid && e.tag == tag && e.wordValid.getD j false then some (e.words.getD j 0) else none

theorem fcLookup_eq (c : Config) (fc : List FcEntry) (q : Word) (j : Nat) :
    fcLookup c fc q j = (fc.getD (fcIndex c q) default).word (fcTag c q) j := rfl

/-- A line with a word put in a slot. -/
def FcEntry.withWord (e : FcEntry) (k : Nat) (v : IWord) : FcEntry :=
  { e with wordValid := e.wordValid.set k true, words := e.words.set k v }

/-- The line an install puts a word in: the PC's own, or a fresh one where it holds another tag (R204). -/
def FcEntry.claimed (c : Config) (e : FcEntry) (tag : Word) : FcEntry :=
  if e.valid && e.tag == tag then e else { resetFcEntry c with valid := true, tag := tag }

theorem FcEntry.word_otherTag {e : FcEntry} {tag : Word} (h : e.tag ≠ tag) (j : Nat) : e.word tag j = none := by
  simp [FcEntry.word, h]

theorem FcEntry.word_withWord_same {c : Config} {e : FcEntry} {k : Nat} (v : IWord) (hgood : e.good c) (hvalid : e.valid = true)
    (hk : k < c.fcLineSize / 4) : (e.withWord k v).word e.tag k = some v := by
  obtain ⟨hwords, hslots⟩ := hgood
  simp [FcEntry.word, FcEntry.withWord, hvalid, hwords, hslots, hk]

theorem FcEntry.word_withWord_ne {e : FcEntry} {k j : Nat} (v : IWord) (tag : Word) (h : j ≠ k) :
    (e.withWord k v).word tag j = e.word tag j := by
  simp [FcEntry.word, FcEntry.withWord, List.getElem?_set_ne (Ne.symm h)]

theorem FcEntry.claimed_valid (c : Config) (e : FcEntry) (tag : Word) : (e.claimed c tag).valid = true := by
  unfold FcEntry.claimed
  split
  · exact (Bool.and_eq_true_iff.mp ‹_›).1
  · rfl

theorem FcEntry.claimed_tag (c : Config) (e : FcEntry) (tag : Word) : (e.claimed c tag).tag = tag := by
  unfold FcEntry.claimed
  split
  · exact beq_iff_eq.mp (Bool.and_eq_true_iff.mp ‹_›).2
  · rfl

theorem FcEntry.claimed_good {c : Config} {e : FcEntry} (tag : Word) (h : e.valid = true → e.good c) :
    (e.claimed c tag).good c := by
  unfold FcEntry.claimed
  split
  · exact h (Bool.and_eq_true_iff.mp ‹_›).1
  · exact resetFcEntry_good c

/-- Claiming a line for a tag loses none of the tag's words: where it held another tag it had none. -/
theorem FcEntry.word_claimed (c : Config) (e : FcEntry) (tag : Word) (j : Nat) :
    (e.claimed c tag).word tag j = e.word tag j := by
  by_cases hkept : (e.valid && e.tag == tag) = true
  · rw [FcEntry.claimed, if_pos hkept]
  · rw [FcEntry.claimed, if_neg hkept]
    have hnone : e.word tag j = none := by
      unfold FcEntry.word
      rw [if_neg]
      simp_all
    rw [hnone]
    have hslot : (List.replicate (c.fcLineSize / 4) false)[j]?.getD false = false := by
      rw [List.getElem?_replicate]
      split <;> rfl
    simp [FcEntry.word, resetFcEntry, hslot]

theorem fcInstall_eq (c : Config) (fc : List FcEntry) (pc : Word) (k : Nat) (v : IWord) : fcInstall c fc pc k v =
    fc.set (fcIndex c pc) (((fc.getD (fcIndex c pc) default).claimed c (fcTag c pc)).withWord k v) := rfl

/-- An install, by what every lookup gives (R204). -/
theorem fcInstall_installed {c : Config} (hlines : 1 ≤ c.fcLines) {fc : List FcEntry} (hlength : fc.length = c.fcLines)
    (hgood : ∀ e ∈ fc, e.good c) (pc : Word) {k : Nat} (hk : k < c.fcLineSize / 4) (v : IWord) :
    Installed c fc pc k v (fcInstall c fc pc k v) := by
  intro q j
  rw [fcInstall_eq, fcLookup_eq]
  generalize hline : (fc.getD (fcIndex c pc) default).claimed c (fcTag c pc) = line
  have hvalid : line.valid = true := hline ▸ FcEntry.claimed_valid c _ _
  have htag : line.tag = fcTag c pc := hline ▸ FcEntry.claimed_tag c _ _
  have hlinegood : line.good c := hline ▸ FcEntry.claimed_good _ fun h => hgood _ (fc_getD_mem h)
  by_cases hindex : fcIndex c q = fcIndex c pc
  · have hbound : fcIndex c pc < fc.length := hlength ▸ Nat.mod_lt _ hlines
    have hget : (fc.set (fcIndex c pc) (line.withWord k v)).getD (fcIndex c q) default = line.withWord k v := by
      rw [hindex, List.getD_eq_getElem?_getD, List.getElem?_set_self hbound, Option.getD_some]
    rw [hget, if_neg (not_not.mpr hindex)]
    by_cases hsame : fcTag c q = fcTag c pc
    · rw [if_neg (not_not.mpr hsame), hsame, ← htag]
      by_cases hslot : j = k
      · rw [if_pos hslot, hslot]
        exact FcEntry.word_withWord_same v hlinegood hvalid hk
      · rw [if_neg hslot, FcEntry.word_withWord_ne v _ hslot, fcLookup_eq, hindex, hsame, htag, ← hline,
          FcEntry.word_claimed]
    · rw [if_pos hsame]
      exact FcEntry.word_otherTag (e := line.withWord k v) (fun h => hsame (h.symm.trans htag)) j
  · rw [if_pos hindex, List.getD_eq_getElem?_getD, List.getElem?_set_ne (Ne.symm hindex), ← List.getD_eq_getElem?_getD]
    rfl

/-! ## Reading a word (R206) -/

section
variable {c : Config}

/-- A word at a multiple of 4 lies inside one line (R75, R133). -/
theorem Config.legal_word (hok : c.ok = true) {a : Word} (ha : aligned4 a = true) : c.legal a 4 = true := by
  obtain ⟨-, hsize, -⟩ := (Config.ok_iff c).mp hok
  have hdvd : 4 ∣ c.lineSize := by
    rw [c.lineSize_eq hok] at hsize ⊢
    exact pow_dvd_pow 2 (Nat.lt_of_not_le fun h : c.offsetBits ≤ 1 => by
      have := Nat.pow_le_pow_right (n := 2) (by decide) h
      omega)
  have hlt := Nat.mod_lt a.toNat (c.lineSize_pos hok)
  have hmod : a.toNat % c.lineSize % 4 = 0 := by
    rw [Nat.mod_mod_of_dvd _ hdvd]
    exact (aligned4_iff a).mp ha
  rw [legal_iff, c.offsetOf_eq hok]
  omega

theorem Config.fcLineSize_dvd (hok : c.ok = true) : 4 ∣ c.fcLineSize := by
  obtain ⟨-, -, -, -, -, -, hmod, -⟩ := (Config.ok_iff c).mp hok
  exact Nat.dvd_of_mod_eq_zero hmod

theorem Config.fcLines_pos (hok : c.ok = true) : 1 ≤ c.fcLines := by
  obtain ⟨-, -, -, -, hlines, -⟩ := (Config.ok_iff c).mp hok
  exact hlines

theorem Config.fcLineSize_ge (hok : c.ok = true) : 4 ≤ c.fcLineSize := by
  obtain ⟨-, -, -, -, -, hsize, -⟩ := (Config.ok_iff c).mp hok
  exact hsize

theorem fcSlot_lt (hok : c.ok = true) (pc : Word) : fcSlot c pc < c.fcLineSize / 4 :=
  Nat.div_lt_div_of_lt_of_dvd (Config.fcLineSize_dvd hok) (Nat.mod_lt _ (by have := Config.fcLineSize_ge hok; omega))

/-- The line after an aligned PC begins at a multiple of 4, around the end of the address space too (R207). -/
theorem nextLine_aligned (hok : c.ok = true) {pc : Word} (h : aligned4 pc = true) : aligned4 (nextLine c pc) = true := by
  rw [aligned4_iff] at h ⊢
  obtain ⟨n, hn⟩ := Config.fcLineSize_dvd hok
  have hpast : pc.toNat % c.fcLineSize % 4 = 0 := by rw [Nat.mod_mod_of_dvd _ (Config.fcLineSize_dvd hok), h]
  have hle := Nat.mod_le pc.toNat c.fcLineSize
  have hlt := pc.isLt
  rw [nextLine, BitVec.toNat_add, BitVec.toNat_sub, BitVec.toNat_ofNat, BitVec.toNat_ofNat]
  omega

end

/-- An install into the cache of a good Fetch. -/
theorem State.fetchGood.installed {s : State} (hok : s.cfg.ok = true) (h : s.fetchGood) (pc : Word) {k : Nat}
    (hk : k < s.cfg.fcLineSize / 4) (v : IWord) :
    Installed s.cfg s.fetch.fc pc k v (fcInstall s.cfg s.fetch.fc pc k v) := by
  obtain ⟨-, -, hlength, hlines⟩ := h
  exact fcInstall_installed (Config.fcLines_pos hok) hlength hlines pc hk v

/-- All that reading a word does (R206). -/
theorem State.readWord_reads {s : State} (hok : s.cfg.ok = true) {a : Word} (ha : aligned4 a = true) :
    ∃ (w : Option IWord) (m : MemSys) (d : Draws), ReadsWord s.cfg a s.sys s.draws w m d ∧
      s.readWord a = (w, { s with sys := m, draws := d }) := by
  unfold ReadsWord State.readWord
  cases s.cfg.fetchSource with
  | hierarchy =>
    obtain ⟨b, m, hread⟩ : ∃ b m, cacheRead s.cfg .fetch a 4 s.sys = some (b, m) :=
      ⟨_, _, if_pos (Config.legal_word hok ha)⟩
    refine ⟨_, _, _, ⟨rfl, _, hread, rfl⟩, ?_⟩
    simp only [hread]
  | memory =>
    by_cases hdraw : s.draws.value % 2 = 1
    · have hfails : drawnBool s.draw.1 = true := beq_iff_eq.mpr hdraw
      exact ⟨_, _, _, ⟨rfl, rfl, (if_pos hdraw).symm⟩, if_pos hfails⟩
    · have hreads : ¬ drawnBool s.draw.1 = true := fun h => hdraw (beq_iff_eq.mp h)
      exact ⟨_, _, _, ⟨rfl, rfl, (if_neg hdraw).symm⟩, if_neg hreads⟩

/-- Only a read of main memory fails, and it leaves the hierarchy alone. -/
theorem ReadsWord.none_sys {c : Config} {a : Word} {m m' : MemSys} {d d' : Draws} (h : ReadsWord c a m d none m' d') :
    m' = m := by
  unfold ReadsWord at h
  split at h
  · obtain ⟨-, _, -, hw⟩ := h
    cases hw
  · exact h.1

/-! ## The prefetch (R207) -/

/-- Outside the window, or with the next line's first word at hand, nothing is prefetched. -/
theorem State.prefetch_nothing {s : State} {pc : Word}
    (h : pc.toNat % s.cfg.fcLineSize < s.cfg.fcLineSize - s.cfg.prefetchWindow ∨
      fcLookup s.cfg s.fetch.fc (nextLine s.cfg pc) 0 ≠ none) : s.prefetch pc = s := by
  unfold State.prefetch
  split
  · obtain ⟨w, hw⟩ := Option.ne_none_iff_exists'.mp (h.resolve_left (by omega))
    simp only [hw]
  · rfl

theorem State.prefetch_read {s : State} {pc : Word} {w : Option IWord} {t : State}
    (hwindow : s.cfg.fcLineSize - s.cfg.prefetchWindow ≤ pc.toNat % s.cfg.fcLineSize)
    (habsent : fcLookup s.cfg s.fetch.fc (nextLine s.cfg pc) 0 = none) (hread : s.readWord (nextLine s.cfg pc) = (w, t)) :
    s.prefetch pc = match w with
      | some v => t.installFc (nextLine s.cfg pc) 0 v
      | none => t := by
  rw [State.prefetch, if_pos hwindow]
  simp only [habsent, hread]
  cases w <;> rfl

/-- All that the prefetch does: to the fetch cache, and to the hierarchy and the draws through the read. -/
theorem State.prefetch_prefetches {s : State} (hok : s.cfg.ok = true) (hgood : s.fetchGood) {pc : Word}
    (hpc : aligned4 pc = true) : ∃ (fc : List FcEntry) (m : MemSys) (d : Draws), Prefetches s.cfg pc s.fetch.fc s.sys s.draws fc m d ∧
      s.prefetch pc = { s with sys := m, fetch := { s.fetch with fc := fc }, draws := d } := by
  by_cases h : s.cfg.fcLineSize - s.cfg.prefetchWindow ≤ pc.toNat % s.cfg.fcLineSize ∧
      fcLookup s.cfg s.fetch.fc (nextLine s.cfg pc) 0 = none
  · obtain ⟨w, m, d, hreads, hread⟩ := State.readWord_reads hok (nextLine_aligned hok hpc)
    have hpre := State.prefetch_read h.1 h.2 hread
    cases w with
    | none => exact ⟨_, m, d, (if_pos h).mpr ⟨_, hreads, rfl⟩, hpre⟩
    | some v =>
      have hslot : 0 < s.cfg.fcLineSize / 4 := Nat.div_pos (Config.fcLineSize_ge hok) (by decide)
      exact ⟨_, m, d, (if_pos h).mpr ⟨_, hreads, State.fetchGood.installed hok hgood _ hslot v⟩, hpre⟩
  · refine ⟨s.fetch.fc, s.sys, s.draws, (if_neg h).mpr ⟨rfl, rfl, rfl⟩, State.prefetch_nothing ?_⟩
    by_cases hwindow : s.cfg.fcLineSize - s.cfg.prefetchWindow ≤ pc.toNat % s.cfg.fcLineSize
    · exact .inr fun habsent => h ⟨hwindow, habsent⟩
    · exact .inl (Nat.lt_of_not_le hwindow)

/-! ## The iteration (R200, R203) -/

/-- A pending redirect applied (R203). -/
def State.redirected (s : State) : State :=
  { s with fetch := { s.fetch with nextPC := s.fetch.branchTarget.getD s.fetch.nextPC, branchTarget := none } }

theorem State.redirected_eq (s : State) : { s with fetch := s.fetch.applyRedirect } = s.redirected := by
  unfold State.redirected FetchState.applyRedirect
  cases h : s.fetch.branchTarget with
  | none => cases s; rename_i fetch _ _ _ _ _ _ _ _; cases fetch; simp_all
  | some t => rfl

theorem State.redirected_fetchGood {s : State} (h : s.fetchGood) : s.redirected.fetchGood :=
  s.redirected_eq ▸ State.applyRedirect_fetchGood h

/-- A fetched instruction counted, and `nextPC` gone past it (R200). -/
def State.fetchCounted (s : State) (pc : Word) : State :=
  { s with
    stages := { s.stages with
      f := { s.stages.f with
        stats := { s.stages.f.stats with
          processed := s.stages.f.stats.processed + 1
          totalCycles := s.stages.f.stats.totalCycles + s.nextDraw } } }
    fetch := { s.fetch with nextPC := pc + 4 }
    draws := s.restDraws }

/-- A fetched word with its prefetch done: its record goes to Decode or is dropped there (R178, R200). -/
theorem State.fetched_eq {s : State} {pc : Word} (w : IWord) {fc : List FcEntry} {m : MemSys} {d : Draws}
    (hprefetch : (s.fetchCounted pc).prefetch pc =
      { s.fetchCounted pc with sys := m, fetch := { (s.fetchCounted pc).fetch with fc := fc }, draws := d }) :
    s.fetched pc w = { s.fetchCounted pc with
      sys := m
      fetch := { (s.fetchCounted pc).fetch with fc := fc }
      stages := { (s.fetchCounted pc).stages with d := s.receiving .d (freshRecord w pc) }
      events := s.events ++ s.dropEvents .d
      draws := d } := by
  have hfetched : s.fetched pc w = ((s.fetchCounted pc).prefetch pc).forward .f (freshRecord w pc) := rfl
  rw [hfetched, hprefetch, State.forward_eq _ (freshRecord w pc) (next := .d) rfl]
  rfl

/-- The same, with the prefetch told by what it does. -/
theorem State.fetched_prefetches {s : State} (hok : s.cfg.ok = true) (hgood : s.fetchGood) {pc : Word}
    (hpc : aligned4 pc = true) (w : IWord) : ∃ (fc : List FcEntry) (m : MemSys) (d : Draws),
      Prefetches s.cfg pc s.fetch.fc s.sys s.restDraws fc m d ∧ s.fetched pc w = { s.fetchCounted pc with
        sys := m
        fetch := { (s.fetchCounted pc).fetch with fc := fc }
        stages := { (s.fetchCounted pc).stages with d := s.receiving .d (freshRecord w pc) }
        events := s.events ++ s.dropEvents .d
        draws := d } := by
  obtain ⟨fc, m, d, hprefetches, hprefetch⟩ := State.prefetch_prefetches (s := s.fetchCounted pc) hok
    (State.setNextPC_fetchGood (aligned4_add_four hpc) hgood) hpc
  exact ⟨fc, m, d, hprefetches, State.fetched_eq w hprefetch⟩

section
variable {s t : State}

theorem State.fetchIteration_eq (hflag : s.stages.f.flushFlag = false) : s.fetchIteration =
    match s.redirected.fetchInstruction (s.fetch.branchTarget.getD s.fetch.nextPC) with
    | (some w, t) => t.fetched (s.fetch.branchTarget.getD s.fetch.nextPC) w
    | (none, t) => t.stall .f := by
  have hnoflush : ¬ (s.stage .f).flushFlag = true := Bool.eq_false_iff.mp hflag
  rw [State.fetchIteration, if_neg hnoflush, s.redirected_eq]
  rfl

variable (hrun : s.stages.f.life = .running) (hflag : s.stages.f.flushFlag = false)
include hrun hflag

theorem execSStep_fetched {w : IWord}
    (h : s.redirected.fetchInstruction (s.fetch.branchTarget.getD s.fetch.nextPC) = (some w, t)) :
    exec (.sStep .f) s = .next (t.fetched (s.fetch.branchTarget.getD s.fetch.nextPC) w).okay := by
  have hstep := execSStep_running (s := s) (id := .f) hrun
  rw [show s.workerStep .f = s.fetchIteration from rfl, State.fetchIteration_eq hflag, h] at hstep
  exact hstep

theorem execSStep_fetchStalled
    (h : s.redirected.fetchInstruction (s.fetch.branchTarget.getD s.fetch.nextPC) = (none, t)) :
    exec (.sStep .f) s = .next (t.stall .f).okay := by
  have hstep := execSStep_running (s := s) (id := .f) hrun
  rw [show s.workerStep .f = s.fetchIteration from rfl, State.fetchIteration_eq hflag, h] at hstep
  exact hstep

end

theorem freshRecord_isFresh (w : IWord) (pc : Word) : IsFresh (freshRecord w pc) w pc :=
  ⟨rfl, rfl, rfl, rfl, rfl, rfl, rfl, rfl⟩

/-- Settles O49: the word is at hand; then the prefetch reads nothing, or is what the prefetch does from there. -/
theorem fetchHit : Obligations.FetchHit := by
  intro s w hrun hflag pc past p hit hfound
  have hstep := execSStep_fetched hrun hflag (s.redirected.fetchInstruction_hit pc w hfound)
  refine ⟨freshRecord_isFresh w pc, fun hnothing => ?_, fun hok hgood => ?_⟩
  · exact hstep.trans (congrArg (fun t : State => Host.Outcome.next t.okay)
      (State.fetched_eq (s := { s.redirected with
        fetch := { s.redirected.fetch with fcHits := s.redirected.fetch.fcHits + 1 } })
        w (fc := s.fetch.fc) (State.prefetch_nothing hnothing)))
  · have hredirected := State.redirected_fetchGood hgood
    obtain ⟨fc, m, d, hprefetches, hfetched⟩ := State.fetched_prefetches
      (s := { s.redirected with fetch := { s.redirected.fetch with fcHits := s.redirected.fetch.fcHits + 1 } })
      hok hredirected hredirected.1 w
    exact ⟨fc, m, d, hprefetches, hstep.trans (congrArg (fun t : State => Host.Outcome.next t.okay) hfetched)⟩

theorem State.fetchInstruction_failed {s t : State} {pc : Word}
    (habsent : fcLookup s.cfg s.fetch.fc pc (fcSlot s.cfg pc) = none) (hread : s.readWord pc = (none, t)) :
    s.fetchInstruction pc = (none, t) := by
  simp only [State.fetchInstruction, habsent, hread]

/-- A word read at a miss: installed, and the miss counted (R204). -/
def State.filled (s : State) (pc : Word) (v : IWord) : State :=
  { s.installFc pc (fcSlot s.cfg pc) v with
    fetch := { (s.installFc pc (fcSlot s.cfg pc) v).fetch with fcMisses := s.fetch.fcMisses + 1 } }

theorem State.fetchInstruction_missed {s t : State} {pc : Word} {v : IWord}
    (habsent : fcLookup s.cfg s.fetch.fc pc (fcSlot s.cfg pc) = none) (hread : s.readWord pc = (some v, t)) :
    s.fetchInstruction pc = (some v, t.filled pc v) := by
  have hcfg : t.cfg = s.cfg := by have := (s.readWord_frame pc).1; rwa [hread] at this
  simp only [State.fetchInstruction, habsent, hread, State.filled, hcfg]
  rfl

/-- Settles O50: the word is read; a failed read is a stall, a word is installed and then fetched. -/
theorem fetchMiss : Obligations.FetchMiss := by
  intro s hok hgood hrun hflag pc habsent
  have hredirected := State.redirected_fetchGood hgood
  have hpc : aligned4 pc = true := hredirected.1
  obtain ⟨w, m, d, hreads, hread⟩ := State.readWord_reads (s := s.redirected) hok hpc
  refine ⟨w, m, d, hreads, ?_⟩
  cases w with
  | none =>
    obtain rfl : m = s.sys := hreads.none_sys
    exact execSStep_fetchStalled hrun hflag (State.fetchInstruction_failed (s := s.redirected) habsent hread)
  | some v =>
    have hinstalled := State.fetchGood.installed hok hgood pc (fcSlot_lt hok pc) v
    obtain ⟨fc, m2, d2, hprefetches, hfetched⟩ := State.fetched_prefetches
      (s := ({ s.redirected with sys := m, draws := d } : State).filled pc v) hok
      (State.installFc_fetchGood pc (fcSlot s.cfg pc) v hredirected) hpc v
    exact ⟨freshRecord_isFresh v pc, _, fc, m2, d2, hinstalled, hprefetches,
      (execSStep_fetched hrun hflag (State.fetchInstruction_missed (s := s.redirected) habsent hread)).trans
        (congrArg (fun t : State => Host.Outcome.next t.okay) hfetched)⟩

end Sys2Proof.Machine
end

section
/-! PROOFS. The controller (46_controller.md): `K.START` and `K.STOP` (R286, R288), and the flush protocol from `K.FLUSH` to the
last acknowledgement (R290 to R292). -/

namespace Sys2Proof.Machine

/-! ## Start and stop (R286, R288) -/

/-- A stage after `K.START`: initialised and started where it was not Running (R286). -/
def Stage.broughtUp (c : Config) (id : StageId) (st : Stage) : Stage :=
  if st.life = .running then st else { resetStage c id with life := .running }

/-- A stage after `K.STOP`: shut down where it was not Stopped (R288). -/
def Stage.broughtDown (st : Stage) : Stage :=
  if st.life = .stopped then st
  else { st with
    queue := [], stats := { st.stats with queueDepth := 0 }, freePermits := st.maxInFlight, flushFlag := false,
    life := .stopped }

/-- All that `K.START` does to one stage. -/
theorem State.bringUp_eq (s : State) (id : StageId) : s.bringUp id = { s with
    stages := s.stages.set id ((s.stages.get id).broughtUp s.cfg id)
    fetch := if id = .f then if (s.stages.get id).life = .running then s.fetch else resetFetch s.cfg s.fetch.nextPC else s.fetch
    ex := if id = .e then if (s.stages.get id).life = .running then s.ex else resetExec else s.ex
    wb := if id = .w then if (s.stages.get id).life = .running then s.wb else resetWb else s.wb
    events := s.events ++ if (s.stages.get id).life != .running then [.stageStarted id] else [] } := by
  by_cases hrun : (s.stages.get id).life = .running
  · have hkept : s.bringUp id = s := if_pos ((s.running_iff id).mpr hrun)
    simp [hkept, Stage.broughtUp, hrun]
  · have hanew : s.bringUp id = (s.initStage id).startStage id := if_neg fun h => hrun ((s.running_iff id).mp h)
    rw [hanew, s.initStage_eq]
    simp [State.startStage, State.emit, State.setStage, State.stage, Stage.broughtUp, hrun]

/-- All that `K.STOP` does to one stage. -/
theorem State.bringDown_eq (s : State) (id : StageId) : s.bringDown id = { s with
    stages := s.stages.set id (s.stages.get id).broughtDown
    ex := if id = .e then if (s.stages.get id).life = .stopped then s.ex else { s.ex with pendingHeavy := [] } else s.ex
    events := s.events ++ if (s.stages.get id).life != .stopped then [.stageStopped id] else [] } := by
  by_cases hstop : (s.stages.get id).life = .stopped
  · have hkept : s.bringDown id = s := if_pos hstop
    simp [hkept, Stage.broughtDown, hstop]
  · have hdown : s.bringDown id = s.shutdownStage id := if_neg hstop
    rw [hdown, s.shutdownStage_eq]
    simp [Stage.broughtDown, hstop]

/-- The events of one stage after another, for those of the stages that are concerned. -/
theorem map_filter_eq_flatMap {α β : Type} (p : α → Bool) (f : α → β) (l : List α) :
    (l.filter p).map f = l.flatMap fun a => if p a then [f a] else [] := by
  induction l with
  | nil => rfl
  | cons a l ih => by_cases h : p a = true <;> simp [h, ih]

/-- Settles O52: the stages brought up, or down, one after another. -/
theorem controllerStartStop : Obligations.ControllerStartStop := by
  refine ⟨fun s => ⟨fun h => congrArg _ (if_neg h), fun h => ?_⟩,
    fun s => ⟨fun h => congrArg _ (if_neg h), fun h => ?_⟩⟩
  · have hstart : exec .kStart s = .next s.startAll.okay := congrArg _ (if_pos h)
    rw [hstart, map_filter_eq_flatMap]
    simp only [State.startAll, StageId.fromLast, List.foldl, State.bringUp_eq, List.flatMap_cons, List.flatMap_nil,
      List.append_nil, List.append_assoc]
    rfl
  · have hstop : exec .kStop s = .next s.stopAll.okay := congrArg _ (if_pos h)
    rw [hstop, map_filter_eq_flatMap]
    simp only [State.stopAll, StageId.all, List.foldl, State.bringDown_eq, List.flatMap_cons, List.flatMap_nil,
      List.append_nil, List.append_assoc]
    rfl

/-! ## The flush protocol (R290 to R292) -/

/-- What the worker of a stage does with a flush, Fetch's too: it applies a pending redirect besides (R182, R203). -/
theorem execSStep_flush {s : State} {id : StageId} (hrun : (s.stages.get id).life = .running)
    (hflag : (s.stages.get id).flushFlag = true) : ∃ n, exec (.sStep id) s = .next { s with
      stages := s.stages.set id { s.stages.get id with
        queue := [], freePermits := n, flushFlag := false, stats := { (s.stages.get id).stats with queueDepth := 0 } }
      fetch := if id = .f then s.redirected.fetch else s.fetch
      ctrl := s.ctrl.flushAck
      resp := replyOk } := by
  rw [execSStep_running hrun]
  by_cases hfetch : id = .f
  · subst hfetch
    have hworker : s.workerStep .f = s.fetchFlush := if_pos hflag
    have hredirect : s.fetch.applyRedirect = s.redirected.fetch := congrArg State.fetch s.redirected_eq
    refine ⟨s.stages.f.maxInFlight, ?_⟩
    rw [hworker, State.fetchFlush, ← hredirect]
    rfl
  · obtain ⟨p, hworker⟩ := s.workerStep_queue hfetch
    rw [hworker, s.iterate_flush id p hflag, s.flushHere_eq, if_neg hfetch]
    exact ⟨_, rfl⟩

/-- A controller flush of `s`, begun, with the stages of `todo` yet to acknowledge it, has come to `t`. -/
structure State.Flushes (s : State) (todo : List StageId) (t : State) : Prop where
  ctrl : t.ctrl = if todo = [] then { s.ctrl with pstate := .running, pendingFlush := 0, recovering := false }
    else { s.ctrl with pstate := .flushing, pendingFlush := todo.length }
  waiting : ∀ id ∈ todo, t.stages.get id = { s.stages.get id with flushFlag := true }
  flushed : ∀ id, id ∉ todo → ∃ n, t.stages.get id = { s.stages.get id with
    queue := [], freePermits := n, flushFlag := false, stats := { (s.stages.get id).stats with queueDepth := 0 } }
  fetch : t.fetch = if .f ∈ todo then s.fetch else s.redirected.fetch
  others : t = { s with ctrl := t.ctrl, stages := t.stages, fetch := t.fetch, resp := t.resp }

section
variable {s t : State}

theorem State.runningCount_all (h : ∀ id, (s.stages.get id).life = .running) : s.runningCount = 4 := by
  have hall : StageId.all.filter s.running = StageId.all :=
    List.filter_eq_self.mpr fun id _ => (s.running_iff id).mpr (h id)
  rw [State.runningCount, hall]
  rfl

/-- `K.FLUSH` with four stages Running begins a flush that all four have to acknowledge, in whatever order (R290). -/
theorem State.flushes_begun {order : List StageId} (horder : order.Perm [.f, .d, .e, .w]) (hctrl : s.ctrl.pstate = .running)
    (hlife : ∀ id, (s.stages.get id).life = .running) : ∃ t, exec .kFlush s = .next t ∧ s.Flushes order t := by
  have hcount := State.runningCount_all hlife
  have hmem : ∀ id, id ∈ order := fun id => horder.mem_iff.mpr (by cases id <;> decide)
  have hne : order ≠ [] := List.ne_nil_of_mem (hmem .f)
  have hbegin : exec .kFlush s = .next s.beginFlush.okay := congrArg _ (if_pos hctrl)
  rw [s.beginFlush_some (by omega), hcount] at hbegin
  refine ⟨_, hbegin, ⟨?_, fun id _ => ?_, fun id hid => absurd (hmem id) hid, (if_pos (hmem .f)).symm, rfl⟩⟩
  · rw [if_neg hne, horder.length_eq]
    rfl
  · have hraise : raiseFlush (s.stages.get id) = { s.stages.get id with flushFlag := true } := if_pos (hlife id)
    rw [← hraise]
    cases id <;> rfl

/-- One acknowledgement: the first of the stages left, whichever it is (R182, R203, R291). -/
theorem State.Flushes.step {id : StageId} {todo : List StageId} (h : s.Flushes (id :: todo) t) (hnew : id ∉ todo)
    (hlife : (s.stages.get id).life = .running) : ∃ u, exec (.sStep id) t = .next u ∧ s.Flushes todo u := by
  have hstage := h.waiting id List.mem_cons_self
  obtain ⟨n, hstep⟩ := execSStep_flush (s := t) (id := id) (by rw [hstage]; exact hlife) (by rw [hstage])
  refine ⟨_, hstep, ⟨?_, fun j hj => ?_, fun j hj => ?_, ?_, ?_⟩⟩
  · have hctrl := h.ctrl
    rw [if_neg (List.cons_ne_nil _ _), List.length_cons] at hctrl
    change t.ctrl.flushAck = _
    cases todo with
    | nil =>
      rw [CtrlState.flushAck_last t.ctrl (by rw [hctrl]) (by rw [hctrl]; rfl), hctrl, if_pos rfl]
    | cons a todo =>
      rw [CtrlState.flushAck_more t.ctrl (by rw [hctrl]) (by rw [hctrl]; simp), hctrl, if_neg (List.cons_ne_nil _ _)]
      rfl
  · have hne : j ≠ id := fun heq => hnew (heq ▸ hj)
    exact (StageMap.get_set_ne _ _ hne).trans (h.waiting j (List.mem_cons_of_mem _ hj))
  · by_cases hj' : j = id
    · subst hj'
      exact ⟨n, (StageMap.get_set_same _ _ _).trans (by rw [hstage])⟩
    · obtain ⟨k, hk⟩ := h.flushed j (by simp [hj, hj'])
      exact ⟨k, (StageMap.get_set_ne _ _ hj').trans hk⟩
  · have hfetch := h.fetch
    by_cases hf : id = .f
    · subst hf
      rw [if_pos List.mem_cons_self] at hfetch
      rw [if_pos rfl, if_neg hnew, State.redirected, hfetch]
      rfl
    · rw [if_neg hf, hfetch]
      simp [Ne.symm hf]
  · rw [h.others]

/-- Several acknowledgements, one after another. -/
theorem State.Flushes.steps (hlife : ∀ id, (s.stages.get id).life = .running) : ∀ {done todo : List StageId} {t : State},
    (done ++ todo).Nodup → s.Flushes (done ++ todo) t → ∃ u, runInstrs (done.map .sStep) t = some u ∧ s.Flushes todo u
  | [], _, t, _, h => ⟨t, rfl, h⟩
  | id :: done, todo, t, hnodup, h => by
    obtain ⟨hnew, hrest⟩ := List.nodup_cons.mp hnodup
    obtain ⟨u, hexec, hu⟩ := State.Flushes.step h hnew (hlife id)
    obtain ⟨v, hruns, hv⟩ := State.Flushes.steps hlife hrest hu
    exact ⟨v, by simpa only [List.map_cons, runInstrs, hexec, nextOf, Option.bind_some] using hruns, hv⟩

end

/-- Settles O54: the flush with the stages left to acknowledge it, after every number of acknowledgements. -/
theorem flushProtocol : Obligations.FlushProtocol := by
  intro s order horder hctrl hlife
  obtain ⟨t, hbegin, ht⟩ := State.flushes_begun horder hctrl hlife
  have hlength : order.length = 4 := horder.length_eq
  have hnodup : order.Nodup := horder.nodup_iff.mpr (by decide)
  have hruns : ∀ k, ∃ u, runInstrs (.kFlush :: (order.take k).map .sStep) s = some u ∧ s.Flushes (order.drop k) u := by
    intro k
    rw [← List.take_append_drop k order] at ht hnodup
    obtain ⟨u, hrun, hu⟩ := ht.steps hlife hnodup
    exact ⟨u, by simpa only [runInstrs, hbegin, nextOf, Option.bind_some] using hrun, hu⟩
  constructor
  · intro k hk
    obtain ⟨u, hrun, hu⟩ := hruns k
    refine ⟨u, hrun, ?_⟩
    have hctrl' := hu.ctrl
    by_cases hlast : k = 4
    · rw [if_pos (List.drop_eq_nil_of_le (by omega))] at hctrl'
      rw [hctrl', hlast]
      exact ⟨rfl, fun h => absurd h (by decide)⟩
    · have hleft : (order.drop k).length = 4 - k := by rw [List.length_drop, hlength]
      rw [if_neg (List.ne_nil_of_length_pos (by omega)), hleft] at hctrl'
      rw [hctrl']
      exact ⟨rfl, fun _ => rfl⟩
  · obtain ⟨u, hrun, hu⟩ := hruns 4
    rw [List.take_of_length_le (by omega)] at hrun
    rw [List.drop_eq_nil_of_le (by omega)] at hu
    refine ⟨u, hrun, hu.ctrl, fun id => ?_, hu.fetch, ?_⟩
    · obtain ⟨n, hn⟩ := hu.flushed id (List.not_mem_nil)
      rw [hn]
      exact ⟨rfl, rfl, hlife id, rfl, rfl⟩
    · rw [hu.others]
      exact ⟨rfl, rfl, rfl, rfl, rfl, rfl, rfl, rfl, rfl⟩

end Sys2Proof.Machine
end

section
/-! PROOFS. The controller's timer (46_controller.md): the samples and the snapshot (R296), and the tuning of the stages, one
after another (R179, R297). -/

namespace Sys2Proof.Machine

/-! ## Draws used up -/

/-- The stream after its next `n` values. -/
def Draws.after (d : Draws) (n : Nat) : Draws := ⟨d.given.drop n, d.count + n⟩

@[simp] theorem Draws.after_zero (d : Draws) : d.after 0 = d := rfl

theorem Draws.after_after (d : Draws) (m n : Nat) : (d.after m).after n = d.after (m + n) := by
  simp [Draws.after, Nat.add_assoc]

theorem Draws.next_snd (f : Nat → Nat) (d : Draws) : (d.next f).2 = d.after 1 := by
  obtain ⟨given, count⟩ := d
  cases given <;> rfl

/-! ## One stage's limit (R179, R297) -/

/-- What the tuning of a stage at a percentage of use may make of it (R297). -/
structure Stage.Tuned (c : Config) (percent : Rat) (st st' : Stage) : Prop where
  others : st' = { st with maxInFlight := st'.maxInFlight, freePermits := st'.freePermits }
  permits : st'.freePermits + st.maxInFlight = st.freePermits + st'.maxInFlight
  high : 80 < percent → st.life ≠ .stopped → st.maxInFlight < c.limitCap → st'.maxInFlight = grownLimit c st.maxInFlight
  highKept : 80 < percent → st.life = .stopped ∨ c.limitCap ≤ st.maxInFlight → st'.maxInFlight = st.maxInFlight
  low : percent < 30 → st.life ≠ .stopped → c.limitFloor < st.maxInFlight →
    shrunkLimit c st.maxInFlight ≤ st'.maxInFlight ∧ st'.maxInFlight ≤ st.maxInFlight
  lowKept : percent < 30 → st.life = .stopped ∨ st.maxInFlight ≤ c.limitFloor → st'.maxInFlight = st.maxInFlight
  between : 30 ≤ percent → percent ≤ 80 → st'.maxInFlight = st.maxInFlight

/-- Whether the tuning shrinks a stage's limit, which takes a draw. -/
def Stage.tuneShrinks (c : Config) (percent : Rat) (st : Stage) : Bool :=
  decide (percent < 30) && st.life != .stopped && decide (c.limitFloor < st.maxInFlight)

section
variable {c : Config} {percent : Rat} {st : Stage}

theorem Stage.Tuned.kept (hhigh : 80 < percent → st.life = .stopped ∨ c.limitCap ≤ st.maxInFlight)
    (hlow : percent < 30 → st.life = .stopped ∨ st.maxInFlight ≤ c.limitFloor) : st.Tuned c percent st where
  others := rfl
  permits := rfl
  high hp hlive hlt := ((hhigh hp).elim hlive (Nat.not_le.mpr hlt)).elim
  highKept _ _ := rfl
  low hp hlive hlt := ((hlow hp).elim hlive (Nat.not_le.mpr hlt)).elim
  lowKept _ _ := rfl
  between _ _ := rfl

theorem grownLimit_gt {m : Nat} (h : m < c.limitCap) : m < grownLimit c m := by
  unfold grownLimit
  omega

/-- A legal configuration shrinks towards a limit between the floor and where it was (R344). -/
theorem shrunkLimit_bounds (hok : c.ok = true) {m : Nat} (h : c.limitFloor < m) :
    1 ≤ shrunkLimit c m ∧ shrunkLimit c m < m := by
  obtain ⟨-, -, -, -, -, -, -, -, -, -, -, -, -, -, -, -, -, hless, hfloor, -⟩ := (Config.ok_iff c).mp hok
  have hdiv : m * c.shrinkNum / c.shrinkDen < m :=
    Nat.div_lt_of_lt_mul (by rw [Nat.mul_comm c.shrinkDen]; exact Nat.mul_lt_mul_of_pos_left hless (by omega))
  unfold shrunkLimit
  omega

theorem Stage.Tuned.grown (hp : 80 < percent) (hlive : st.life ≠ .stopped) (hlt : st.maxInFlight < c.limitCap) :
    st.Tuned c percent (st.grow (grownLimit c st.maxInFlight)) where
  others := rfl
  permits := by
    have := grownLimit_gt hlt
    simp only [Stage.grow]
    omega
  high _ _ _ := rfl
  highKept _ h := (h.elim hlive (Nat.not_le.mpr hlt)).elim
  low h := by linarith
  lowKept h := by linarith
  between _ h := by linarith

theorem Stage.Tuned.shrunk (hp : percent < 30) (hlive : st.life ≠ .stopped) (hlt : c.limitFloor < st.maxInFlight) {k : Nat}
    (hk : k ≤ st.shrinkMax (shrunkLimit c st.maxInFlight)) (hless : shrunkLimit c st.maxInFlight < st.maxInFlight) :
    st.Tuned c percent (st.shrink k) := by
  obtain ⟨hlimit, hfree⟩ := Nat.le_min.mp hk
  refine ⟨rfl, ?_, fun h => by linarith, fun h => by linarith, fun _ _ _ => ?_,
    fun _ h => (h.elim hlive (Nat.not_le.mpr hlt)).elim, fun h => by linarith⟩ <;>
  · simp only [Stage.shrink]
    omega

end

/-! ## Tuning a stage (R297) -/

/-- The rolling average of a stage's use, in percent (R297). -/
def State.percent (s : State) (id : StageId) : Rat := 100 * average (s.ctrl.utilSamples.get id)

/-- A machine after the tuning of a stage. -/
def State.withTuned (s : State) (id : StageId) (st : Stage) : State :=
  { s with
    stages := s.stages.set id st
    events := s.events ++ if 80 < s.percent id then [.bottleneckDetected id] else []
    draws := s.draws.after (if (s.stages.get id).tuneShrinks s.cfg (s.percent id) then 1 else 0) }

section
variable {s : State} {id : StageId}

theorem State.adjust_stopped (n : Nat) (h : (s.stages.get id).life = .stopped) : s.adjust id n = s := by
  simp [State.adjust, State.adjustRefusal, State.stage, h]

theorem State.adjust_live {n : Nat} (h : (s.stages.get id).life ≠ .stopped) (hn : n ≠ 0) :
    s.adjust id n = s.resize id n := by
  simp [State.adjust, s.adjustRefusal_live h hn]

theorem State.tune_high (hp : 80 < s.percent id) : s.tune id =
    if (s.stages.get id).maxInFlight < s.cfg.limitCap then
      (s.emit (.bottleneckDetected id)).adjust id (grownLimit s.cfg (s.stages.get id).maxInFlight)
    else s.emit (.bottleneckDetected id) := if_pos hp

theorem State.tune_low (hp : s.percent id < 30) : s.tune id =
    if s.cfg.limitFloor < (s.stages.get id).maxInFlight then
      s.adjust id (shrunkLimit s.cfg (s.stages.get id).maxInFlight)
    else s :=
  (if_neg (show ¬ 80 < s.percent id by linarith)).trans (if_pos hp)

theorem State.tune_between (hhigh : ¬ 80 < s.percent id) (hlow : ¬ s.percent id < 30) : s.tune id = s :=
  (if_neg hhigh).trans (if_neg hlow)

/-- A stage whose limit is not to change: the machine is as it was, but for the event of a bottleneck. -/
theorem State.withTuned_same (h : (s.stages.get id).tuneShrinks s.cfg (s.percent id) = false) :
    s.withTuned id (s.stages.get id) =
      { s with events := s.events ++ if 80 < s.percent id then [.bottleneckDetected id] else [] } := by
  simp [State.withTuned, h]

theorem State.tune_tunes_high (hhigh : 80 < s.percent id) :
    ∃ st, (s.stages.get id).Tuned s.cfg (s.percent id) st ∧ s.tune id = s.withTuned id st := by
  have hlow : ¬ s.percent id < 30 := by linarith
  have hnodraw : (s.stages.get id).tuneShrinks s.cfg (s.percent id) = false := by simp [Stage.tuneShrinks, hlow]
  rw [State.tune_high hhigh]
  by_cases hlimit : (s.stages.get id).maxInFlight < s.cfg.limitCap
  · rw [if_pos hlimit]
    by_cases hlive : (s.stages.get id).life = .stopped
    · refine ⟨_, .kept (fun _ => .inl hlive) (fun h => absurd h hlow), ?_⟩
      rw [State.adjust_stopped (s := s.emit _) _ hlive, State.withTuned_same hnodraw, if_pos hhigh]
      rfl
    · have hgrown := grownLimit_gt hlimit
      refine ⟨_, .grown hhigh hlive hlimit, ?_⟩
      rw [State.adjust_live (s := s.emit _) hlive (by omega), State.resize_grow (s.emit _) id _ hgrown.le, State.withTuned,
        hnodraw, if_pos hhigh]
      rfl
  · refine ⟨_, .kept (fun _ => .inr (Nat.not_lt.mp hlimit)) (fun h => absurd h hlow), ?_⟩
    rw [if_neg hlimit, State.withTuned_same hnodraw, if_pos hhigh]
    rfl

theorem State.tune_tunes_low (hok : s.cfg.ok = true) (hlow : s.percent id < 30) :
    ∃ st, (s.stages.get id).Tuned s.cfg (s.percent id) st ∧ s.tune id = s.withTuned id st := by
  have hhigh : ¬ 80 < s.percent id := by linarith
  rw [State.tune_low hlow]
  by_cases hlimit : s.cfg.limitFloor < (s.stages.get id).maxInFlight
  · rw [if_pos hlimit]
    by_cases hlive : (s.stages.get id).life = .stopped
    · have hnodraw : (s.stages.get id).tuneShrinks s.cfg (s.percent id) = false := by simp [Stage.tuneShrinks, hlive]
      refine ⟨_, .kept (fun h => absurd h hhigh) (fun _ => .inl hlive), ?_⟩
      rw [State.adjust_stopped _ hlive, State.withTuned_same hnodraw, if_neg hhigh, List.append_nil]
    · have hdraw : (s.stages.get id).tuneShrinks s.cfg (s.percent id) = true := by
        simp [Stage.tuneShrinks, hlow, hlive, hlimit]
      obtain ⟨hpos, hless⟩ := shrunkLimit_bounds hok hlimit
      refine ⟨_, .shrunk hlow hlive hlimit (Nat.lt_succ_iff.mp (Nat.mod_lt s.draw.1 (Nat.succ_pos _))) hless, ?_⟩
      rw [State.adjust_live hlive (by omega), State.resize_shrink _ id _ (Nat.not_le.mpr hless), State.withTuned, hdraw,
        if_neg hhigh, List.append_nil, if_pos rfl, ← Draws.next_snd Config.freeDraw]
      rfl
  · have hnodraw : (s.stages.get id).tuneShrinks s.cfg (s.percent id) = false := by simp [Stage.tuneShrinks, hlimit]
    refine ⟨_, .kept (fun h => absurd h hhigh) (fun _ => .inr (Nat.not_lt.mp hlimit)), ?_⟩
    rw [if_neg hlimit, State.withTuned_same hnodraw, if_neg hhigh, List.append_nil]

theorem State.tune_tunes (hok : s.cfg.ok = true) :
    ∃ st, (s.stages.get id).Tuned s.cfg (s.percent id) st ∧ s.tune id = s.withTuned id st := by
  by_cases hhigh : 80 < s.percent id
  · exact State.tune_tunes_high hhigh
  · by_cases hlow : s.percent id < 30
    · exact State.tune_tunes_low hok hlow
    · have hnodraw : (s.stages.get id).tuneShrinks s.cfg (s.percent id) = false := by simp [Stage.tuneShrinks, hlow]
      refine ⟨_, .kept (fun h => absurd h hhigh) (fun h => absurd h hlow), ?_⟩
      rw [State.tune_between hhigh hlow, State.withTuned_same hnodraw, if_neg hhigh, List.append_nil]

end

/-! ## Tuning the stages one after another -/

/-- Each of some different stages is tuned as it stood, whatever the order: a stage's tuning reads no other stage (R297). -/
theorem State.tunes : ∀ (ids : List StageId), ids.Nodup → ∀ s : State, s.cfg.ok = true → ∃ m : StageMap Stage,
    ids.foldl State.tune s = { s with
      stages := m
      events := s.events ++ (ids.filter fun id => decide (80 < s.percent id)).map .bottleneckDetected
      draws := s.draws.after (ids.filter fun id => (s.stages.get id).tuneShrinks s.cfg (s.percent id)).length } ∧
    (∀ id ∈ ids, (s.stages.get id).Tuned s.cfg (s.percent id) (m.get id)) ∧
      ∀ id, id ∉ ids → m.get id = s.stages.get id
  | [], _, s, _ => ⟨s.stages, by simp, by simp, fun _ _ => rfl⟩
  | id :: ids, hnodup, s, hok => by
    obtain ⟨hnew, hrest⟩ := List.nodup_cons.mp hnodup
    obtain ⟨st, htuned, htune⟩ := State.tune_tunes (id := id) hok
    obtain ⟨m, hfold, hin, hout⟩ := State.tunes ids hrest (s.withTuned id st) hok
    have hstage : ∀ j ∈ ids, (s.withTuned id st).stages.get j = s.stages.get j := fun j hj =>
      StageMap.get_set_ne _ _ fun heq => hnew (heq ▸ hj)
    have hshrinks : (ids.filter fun j => ((s.withTuned id st).stages.get j).tuneShrinks s.cfg (s.percent j)) =
        ids.filter fun j => (s.stages.get j).tuneShrinks s.cfg (s.percent j) :=
      List.filter_congr fun j hj => by rw [hstage j hj]
    refine ⟨m, ?_, fun j hj => ?_, fun j hj => ?_⟩
    · rw [List.foldl_cons, htune, hfold]
      have hdraws : ((s.withTuned id st).draws.after
          (ids.filter fun j => ((s.withTuned id st).stages.get j).tuneShrinks s.cfg (s.percent j)).length) =
          s.draws.after ((id :: ids).filter fun j => (s.stages.get j).tuneShrinks s.cfg (s.percent j)).length := by
        rw [hshrinks, State.withTuned, Draws.after_after, List.filter_cons]
        split <;> simp [Nat.add_comm]
      have hevents : (s.withTuned id st).events ++ (ids.filter fun j => decide (80 < s.percent j)).map .bottleneckDetected =
          s.events ++ ((id :: ids).filter fun j => decide (80 < s.percent j)).map .bottleneckDetected := by
        rw [State.withTuned, List.filter_cons]
        by_cases hhigh : 80 < s.percent id <;> simp [hhigh]
      rw [← hdraws, ← hevents]
      rfl
    · rcases List.mem_cons.mp hj with rfl | hj'
      · rw [hout j hnew, State.withTuned, StageMap.get_set_same]
        exact htuned
      · exact hstage j hj' ▸ hin j hj'
    · obtain ⟨hne, hj'⟩ := List.ne_and_not_mem_of_not_mem_cons hj
      rw [hout j hj', State.withTuned, StageMap.get_set_ne _ _ hne]

/-! ## The timer (R296) -/

/-- A stage's rolling window with the sample of now. -/
def State.window (s : State) (id : StageId) : List Rat :=
  lastN s.cfg.rollingWindow (s.ctrl.utilSamples.get id ++ [s.utilization id])

/-- The four samples: no sample reads another one (R296). -/
theorem State.samples_eq (s : State) : StageId.all.foldl State.sample s =
    { s with ctrl := { s.ctrl with utilSamples := ⟨s.window .f, s.window .d, s.window .e, s.window .w⟩ } } := rfl

/-- A tick before the tuning: counted, sampled, and published (R296). -/
def State.ticked (s : State) : State :=
  { s with
    ctrl := { s.ctrl with
      tick := s.ctrl.tick + 1, utilSamples := ⟨s.window .f, s.window .d, s.window .e, s.window .w⟩ }
    events := s.events ++ [s.snapshot] }

theorem State.timerTick_eq (s : State) : s.timerTick =
    if s.ctrl.pstate = .running then StageId.all.foldl State.tune s.ticked else s.ticked := by
  have hticked : (StageId.all.foldl State.sample { s with ctrl := { s.ctrl with tick := s.ctrl.tick + 1 } }).emit
      (StageId.all.foldl State.sample { s with ctrl := { s.ctrl with tick := s.ctrl.tick + 1 } }).snapshot = s.ticked := by
    rw [State.samples_eq]
    rfl
  rw [State.timerTick, hticked]
  rfl

theorem State.ticked_percent (s : State) (id : StageId) : s.ticked.percent id = 100 * average (s.window id) := by
  cases id <;> rfl

theorem execKTick_eq {s : State} (h : s.ctrl.pstate ≠ .stopped) : exec .kTick s = .next s.timerTick.okay :=
  congrArg _ (if_neg h)

/-- Settles O58: the samples and the snapshot; and while Running the tuning of the four stages from there. -/
theorem timerTunes : Obligations.TimerTunes := by
  intro s window percent ticked snapshot limit shrinks
  refine ⟨fun h => congrArg _ (if_pos h), fun hlive hidle => ?_, fun hok hrun => ?_⟩
  · rw [execKTick_eq hlive, s.timerTick_eq, if_neg hidle]
    rfl
  · obtain ⟨m, hfold, htuned, -⟩ := State.tunes StageId.all (by decide) s.ticked hok
    have hpercent : s.ticked.percent = percent := funext s.ticked_percent
    rw [hpercent] at hfold htuned
    refine ⟨m, ?_, fun id => ?_⟩
    · rw [execKTick_eq (by rw [hrun]; decide), s.timerTick_eq, if_pos hrun, hfold]
      rfl
    · obtain ⟨hothers, hpermits, hhigh, hhighKept, hlow, hlowKept, hbetween⟩ := htuned id (StageId.mem_all id)
      exact ⟨hothers, hpermits, hhigh, hhighKept, hlow, hlowKept, hbetween⟩

end Sys2Proof.Machine
end

section
/-! PROOFS. Fetch (42_fetch.md): the redirect and the set PC with their alignment and state rules (R202, R208), and the flush
(R203, R291). -/

namespace Sys2Proof.Machine

/-! ## The redirect and the set PC (R202, R208) -/

/-- The model's alignment test is the spec's `a & 3 == 0`. -/
theorem aligned4_iff_and_three (a : Word) : aligned4 a = true ↔ a &&& 3 = 0 := by
  rw [aligned4_iff, ← BitVec.toNat_inj, BitVec.toNat_and]
  exact (Nat.and_two_pow_sub_one_eq_mod a.toNat 2).symm ▸ Iff.rfl

section
variable {s : State} {t : Word}

theorem State.redirect_aligned (h : aligned4 t = true) :
    s.redirect t = some { s with fetch := { s.fetch with branchTarget := some t } } := if_pos h

theorem State.redirect_misaligned (h : ¬ aligned4 t = true) : s.redirect t = none := if_neg h

theorem exec_fRedirect : exec (.fRedirect t) s = execFRedirect t s := rfl

theorem execFRedirect_aligned (h : aligned4 t = true) : exec (.fRedirect t) s =
    .next ({ s with fetch := { s.fetch with branchTarget := some t } } : State).okay := by
  rw [exec_fRedirect, execFRedirect, State.redirect_aligned h]

theorem execFRedirect_misaligned (h : ¬ aligned4 t = true) : exec (.fRedirect t) s = .next (s.refuse .errAlign) := by
  rw [exec_fRedirect, execFRedirect, State.redirect_misaligned h]

theorem execFSetpc_running (hrun : s.stages.f.life = .running) : exec (.fSetpc t) s = .next (s.refuse .errState) :=
  congrArg _ (if_pos ((s.running_iff .f).mpr hrun))

/-- Where Fetch is not Running, the alignment decides (R208). -/
theorem execFSetpc_idle (hidle : s.stages.f.life ≠ .running) : exec (.fSetpc t) s =
    .next (if aligned4 t then ({ s with fetch := { s.fetch with nextPC := t } } : State).okay else s.refuse .errAlign) :=
  congrArg _ (if_neg fun hrun => hidle ((s.running_iff .f).mp hrun))

end

/-- Settles O48: either command at an aligned and at a misaligned value, after the set PC's test of the stage's state. -/
theorem redirectAndSetPc : Obligations.RedirectAndSetPc := by
  intro t s
  simp only [← aligned4_iff_and_three, ne_eq]
  refine ⟨decode_encode (cfg := s.cfg) (i := .fRedirect t) rfl, decode_encode (cfg := s.cfg) (i := .fSetpc t) rfl,
    execFRedirect_aligned, execFRedirect_misaligned, execFSetpc_running, fun hidle haligned => ?_,
    fun hidle hmisaligned => ?_⟩
  · rw [execFSetpc_idle hidle, if_pos haligned]
    rfl
  · rw [execFSetpc_idle hidle, if_neg hmisaligned]
    rfl

/-! ## The flush (R203, R291) -/

/-- All that Fetch's flush does: the queue discarded, the gate full, a pending redirect applied, and an acknowledgement. -/
theorem State.fetchFlush_eq (s : State) : s.fetchFlush = { s with
    fetch := s.redirected.fetch
    stages := { s.stages with
      f := { s.stages.f with
        queue := [], freePermits := s.stages.f.maxInFlight, flushFlag := false,
        stats := { s.stages.f.stats with queueDepth := 0 } } }
    ctrl := s.ctrl.flushAck } := by
  have hredirect : s.fetch.applyRedirect = s.redirected.fetch := congrArg State.fetch s.redirected_eq
  rw [State.fetchFlush, ← hredirect]
  rfl

/-- Settles O51: with its flush flag set, a Running Fetch's iteration is its flush. -/
theorem fetchFlush : Obligations.FetchFlush := by
  intro s hrun hflag
  have hworker : s.workerStep .f = s.fetchFlush := if_pos hflag
  rw [execSStep_running (id := .f) hrun, hworker, s.fetchFlush_eq, s.ctrl.flushAck_eq]
  rfl

end Sys2Proof.Machine
end

section
/-! PROOFS. Decode (43_decode.md): the fields of a decoded record, class by class (R220 to R227), and the no-op word on its way
through Decode, Execute and Writeback (R220, R240, R245, R267). -/

namespace Sys2Proof.Machine

/-! ## The fields Decode sets (R220 to R227) -/

/-- Settles O35: the fields common to all words, and then those of each class. -/
theorem decodeFields : Obligations.DecodeFields := by
  intro c w r
  have hlookup (op : BitVec 6) : c.classOf[op.toNat]'op.isLt = c.classOfOpcode op := rfl
  have hop : w.extractLsb' 26 6 = opcodeOf w := rfl
  simp only [hlookup, hop, decodeRecord, decodeClass, decodeCommon]
  cases hcls : c.classOfOpcode (opcodeOf w) with
  | memory => simp [decodeMemory, Config.memInfoOf, memDisp, raOf, rbOf, rcOf]
  | branch => simp [decodeBranch, Config.uncondBranchOf, branchTargetOf, branchDisp, raOf, rbOf, rcOf]
  | operate => simp [decodeOperate, raOf, rbOf, rcOf]
  | floatOp => simp [decodeFloatOp, raOf, rbOf, rcOf]
  | jump => simp [decodeJump, raOf, rbOf, rcOf]
  | misc => simp [decodeMisc, raOf, rbOf, rcOf]
  | invalid => simp [decodeInvalid, raOf, rbOf, rcOf]

theorem decodeRecord_pc (c : Config) (w : IWord) (r : InstrRecord) : (decodeRecord c w r).pc = r.pc :=
  (congrArg InstrRecord.pc (decodeFields c w r :) :)

/-! ## The no-op word in Decode (R220) -/

/-- A no-op word as Decode leaves it, where its opcode is of the Operate class: what Execute and Writeback look at. -/
structure IsDecodedNop (d : InstrRecord) : Prop where
  raw : d.raw = nopCode
  valid : d.valid = true
  decoded : d.decoded = true
  cls : d.cls = .operate
  opcode : d.opcode = 0x11
  isLoad : d.isLoad = false

theorem decodeRecord_nop {c : Config} {r : InstrRecord} (hclass : c.classOfOpcode 0x11 = .operate)
    (hraw : r.raw = nopCode) (hvalid : r.valid = true) : IsDecodedNop (decodeRecord c nopCode r) := by
  have hcls : c.classOfOpcode (opcodeOf nopCode) = .operate := hclass
  have hrecord : decodeRecord c nopCode r = { decodeOperate nopCode (decodeCommon c nopCode r) with decoded := true } := by
    simp only [decodeRecord, decodeClass, decodeCommon, hcls]
  exact hrecord ▸ ⟨hraw, hvalid, rfl, hclass, rfl, rfl⟩

/-- No legal configuration makes it Heavy (R241, R245). -/
theorem IsDecodedNop.not_heavy {d : InstrRecord} (h : IsDecodedNop d) {c : Config} (hcfg : c.ok = true) :
    c.costClass d.cls d.opcode d.func ≠ .heavy := by
  obtain ⟨-, hlogic, -⟩ := Config.costOk_all c hcfg d.func
  rw [h.cls, h.opcode, hlogic]
  decide

theorem State.decodeHead_worksOn {s : State} {r : InstrRecord} {rest : List InstrRecord} (hwork : s.worksOn .d r rest) :
    s.decodeHead = some r.raw := by
  obtain ⟨hrun, hflag, hqueue⟩ := hwork
  rw [State.decodeHead, show s.stage .d = s.stages.get .d from rfl, (s.running_iff .d).mpr hrun, hflag, hqueue]
  rfl

/-- The state after a step of Decode whose record `d` Execute accepts (R175, R220). -/
def State.afterDecode (s : State) (rest : List InstrRecord) (d : InstrRecord) : State := { s with
  stages := { s.stages with d := s.stages.d.worked rest s.nextDraw, e := s.receiving .e d }
  draws := s.restDraws
  resp := replyOk }

/-- A step of Decode on the no-op word is the meaning of that word (O5), which is known (O34). -/
theorem execSStep_decode_nop {s : State} {r : InstrRecord} {rest : List InstrRecord} (hwork : s.worksOn .d r rest)
    (hraw : r.raw = nopCode) (haccept : s.accepts .e) :
    exec (.sStep .d) s = .next (s.afterDecode rest (decodeRecord s.cfg nopCode r)) := by
  have hhead : s.decodeHead = some nopCode := hraw ▸ State.decodeHead_worksOn hwork
  obtain ⟨hforwards, -⟩ := decodeWordForwards .nopWord nopCode s r rest rfl hwork
  rw [decodeStepRunsWord s nopCode hhead, show decodeWord nopCode = .nopWord from rfl, hforwards haccept,
    State.afterDecode, State.receiving, if_pos haccept]
  rfl

/-! ## The no-op word in Execute (R240, R245) -/

/-- What tiering may do to a state: Execute's own accounts but the count of faults, the trace, the draws, and events after
those already published (R250 to R255). -/
def State.TiersTo (s t : State) : Prop :=
  ∃ x l trace draws, x.executionExceptions = s.ex.executionExceptions ∧
    t = { s with ex := x, events := s.events ++ l, jitTrace := trace, draws := draws }

section
variable {s t : State}

theorem State.TiersTo.refl (s : State) : s.TiersTo s := ⟨s.ex, [], s.jitTrace, s.draws, rfl, by rw [List.append_nil]⟩

theorem State.TiersTo.cfg (h : s.TiersTo t) : t.cfg = s.cfg := by
  obtain ⟨x, l, trace, draws, -, rfl⟩ := h
  rfl

theorem State.TiersTo.recordExecution (h : s.TiersTo t) (r : InstrRecord) : s.TiersTo (t.recordExecution r) := by
  obtain ⟨x, l, trace, draws, hfaults, rfl⟩ := h
  exact ⟨x, l, _, draws, hfaults, rfl⟩

theorem State.TiersTo.draw (h : s.TiersTo t) : s.TiersTo t.draw.2 := by
  obtain ⟨x, l, trace, draws, hfaults, rfl⟩ := h
  exact ⟨x, l, trace, _, hfaults, rfl⟩

theorem State.TiersTo.own (h : s.TiersTo t) {y : ExecState} (hy : y.executionExceptions = t.ex.executionExceptions) :
    s.TiersTo { t with ex := y } := by
  obtain ⟨x, l, trace, draws, hfaults, rfl⟩ := h
  exact ⟨y, l, trace, draws, hy.trans hfaults, rfl⟩

theorem State.TiersTo.emit (h : s.TiersTo t) (e : Event) : s.TiersTo (t.emit e) := by
  obtain ⟨x, l, trace, draws, hfaults, rfl⟩ := h
  exact ⟨x, l ++ [e], trace, draws, hfaults, by rw [← List.append_assoc]; rfl⟩

theorem State.TiersTo.requestCompile (h : s.TiersTo t) (e : TierEntry) (pc : Word) :
    s.TiersTo (t.requestCompile e pc).2 := by
  unfold State.requestCompile
  split
  · exact h
  · exact (h.own (by rfl)).emit _

theorem State.TiersTo.modeFor (h : s.TiersTo t) (e : TierEntry) (pc : Word) : s.TiersTo (t.modeFor e pc).2.2 := by
  unfold State.modeFor
  split
  · exact h
  · split
    · exact h
    · split
      · exact h.draw
      · exact h.draw.requestCompile e pc

theorem State.TiersTo.noteMode (h : s.TiersTo t) (old : Option ExecMode) (new : ExecMode) (pc : Word) :
    s.TiersTo (t.noteMode old new pc) := by
  unfold State.noteMode
  split
  · exact h
  · split
    · exact h
    · exact (h.own (by rfl)).emit _

theorem State.tiersTo_tierStep (s : State) (r : InstrRecord) : s.TiersTo (s.tierStep r).2 :=
  (((State.TiersTo.refl s).modeFor _ _).noteMode _ _ _).own rfl

end

/-- The state after a step of Execute whose record `y` Writeback accepts, `process_E` having ended in `t` (R175, R240). -/
def State.afterExecute (s : State) (rest : List InstrRecord) (t : State) (y : InstrRecord) : State := { t with
  stages := { s.stages with e := s.stages.e.worked rest s.nextDraw, w := s.receiving .w y }
  resp := replyOk }

/-- An answer of `process_E` in a state: the instruction completed without an exception, at some cost class, and no more done
to the state than tiering does. -/
def State.CompletesOnly (s : State) (d : InstrRecord) (out : ProcessResult × State) : Prop :=
  ∃ k res t, out = (.output (completedWith { d with cost := k } res), t) ∧ res.hasException = false ∧ s.TiersTo t

section
variable {s t : State} {d : InstrRecord} (hnop : IsDecodedNop d) (hcfg : s.cfg.ok = true)
include hnop hcfg

theorem interpretE_nop (h : s.TiersTo t) : s.CompletesOnly d (interpretE d t) :=
  ⟨_, _, t, interpretE_done (hnop.not_heavy (h.cfg ▸ hcfg)) (execUnit_nop t _ hnop.raw), rfl, h⟩

/-- In every mode, and whether or not there is a compiled block (R251, R253). -/
theorem hybridE_nop : s.CompletesOnly d (hybridE d s) := by
  have htiers := s.tiersTo_tierStep d
  rcases hstep : s.tierStep d with ⟨mode, t⟩
  rw [hstep] at htiers
  cases mode with
  | interpret => exact hybridE_interpret hstep ▸ interpretE_nop hnop hcfg htiers
  | profile => exact hybridE_profile hstep ▸ interpretE_nop hnop hcfg (htiers.recordExecution d)
  | compiled =>
    by_cases hblock : t.nextDraw % 2 = 1
    · have hdone := State.tryCompiled_done hblock (execUnit_nop _ d hnop.raw)
      exact ⟨d.cost, _, _, hybridE_compiled hstep hdone, rfl, htiers.draw⟩
    · rw [hybridE_missed hstep (State.tryCompiled_none hblock)]
      exact interpretE_nop hnop hcfg (htiers.draw.own rfl)

theorem processE_nop : s.CompletesOnly d (processE d s) := by
  cases hvariant : s.cfg.execVariant with
  | plain => exact processE_plain hnop.valid hnop.decoded hvariant ▸ interpretE_nop hnop hcfg (.refl s)
  | hybrid => exact processE_hybrid hnop.valid hnop.decoded hvariant ▸ hybridE_nop hnop hcfg

/-- A step of Execute on the no-op word: Writeback gets it completed, without an exception. -/
theorem execSStep_execute_nop {rest : List InstrRecord} (hwork : s.worksOn .e d rest) (haccept : s.accepts .w) :
    ∃ k res t, res.hasException = false ∧ (s.processing .e rest).TiersTo t ∧
      exec (.sStep .e) s = .next (s.afterExecute rest t (completedWith { d with cost := k } res)) := by
  obtain ⟨k, res, t, hout, hclean, htiers⟩ := processE_nop (s := s.processing .e rest) hnop hcfg
  have hnodrop : s.dropEvents .w = [] := if_pos haccept
  refine ⟨k, res, t, hclean, htiers, ?_⟩
  rw [execSStep_execute_output hwork hout, hnodrop, List.append_nil]
  rfl

end

/-- Once completed it passes the commit gate (R266), and is no branch. -/
theorem IsDecodedNop.completed_committable {d : InstrRecord} (h : IsDecodedNop d) (k : CostClass) (res : ExecResult) :
    committable (completedWith { d with cost := k } res) = true := by
  simp [committable, completedWith, h.valid, h.decoded]

theorem IsDecodedNop.completed_not_branch {d : InstrRecord} (h : IsDecodedNop d) (k : CostClass) (res : ExecResult) :
    isBranch (completedWith { d with cost := k } res) = false := by
  simp [isBranch, completedWith, h.cls]

/-! ## The commit of an instruction that is no load and no branch (R265, R267) -/

theorem State.commit_plain (s : State) {r : InstrRecord} (hload : r.isLoad = false) (hbranch : isBranch r = false) :
    s.commit r = { s with
      wb := { s.wb with instructionsCommitted := s.wb.instructionsCommitted + 1 }
      events := s.events ++ [.instructionCommitted r.pc] } := by
  simp [State.commit, hload, hbranch, State.emit]

theorem execSStep_writeback_plain {s : State} {r : InstrRecord} {rest : List InstrRecord} (hwork : s.worksOn .w r rest)
    (hgate : committable r = true) (hclean : r.hasException = false) (hload : r.isLoad = false)
    (hbranch : isBranch r = false) : exec (.sStep .w) s = .next { s with
      stages := { s.stages with w := s.stages.w.worked rest s.nextDraw }
      wb := { s.wb with instructionsCommitted := s.wb.instructionsCommitted + 1 }
      events := s.events ++ [.instructionCommitted r.pc]
      draws := s.restDraws
      resp := replyOk } := by
  have hcommit := (s.processing .w rest).writeback_commit r hgate hclean
  rw [State.commit_plain _ hload hbranch] at hcommit
  have hprocess : processW r (s.processing .w rest) = (.noOutput, _) := congrArg (Prod.mk _) hcommit
  rw [execSStep_running hwork.1, show s.workerStep .w = s.iterate .w processW from rfl]
  exact congrArg (fun t : State => Host.Outcome.next t.okay) (State.iterate_noOutput hwork hprocess rfl)

/-! ## The three steps -/

theorem runInstrs_cons {i : Instr} {s t : State} (h : exec i s = .next t) (is : List Instr) :
    runInstrs (i :: is) s = runInstrs is t := by
  rw [runInstrs, h]
  rfl

theorem State.receiving_processed (s : State) (id : StageId) (x : InstrRecord) :
    (s.receiving id x).stats.processed = (s.stages.get id).stats.processed := by
  rw [State.receiving]
  split <;> rfl

/-- A stage that accepts an instruction into its empty queue works on it next. -/
theorem State.worksOn_of_receiving {s t : State} {id : StageId} {x : InstrRecord}
    (hstage : t.stages.get id = s.receiving id x) (haccept : s.accepts id) (hempty : (s.stages.get id).queue = [])
    (hflag : (s.stages.get id).flushFlag = false) : t.worksOn id x [] := by
  rw [State.worksOn, hstage, State.receiving, if_pos haccept, hempty]
  exact ⟨haccept.1, hflag, rfl⟩

/-- Settles O38: a step of Decode, one of Execute and one of Writeback, each on the record the one before has forwarded. -/
theorem nopThroughPipeline : Obligations.NopThroughPipeline := by
  intro s r hcfg hclass hwork hraw hvalid haccE hemptyE hflagE haccW hemptyW hflagW
  have hnop : IsDecodedNop (decodeRecord s.cfg nopCode r) := decodeRecord_nop hclass hraw hvalid
  have hpc : (decodeRecord s.cfg nopCode r).pc = r.pc := decodeRecord_pc s.cfg nopCode r
  have hdecode := execSStep_decode_nop hwork hraw haccE
  generalize decodeRecord s.cfg nopCode r = d at hnop hpc hdecode
  have hworkE : (s.afterDecode [] d).worksOn .e d [] := State.worksOn_of_receiving rfl haccE hemptyE hflagE
  obtain ⟨k, res, t, hclean, htiers, hexecute⟩ :=
    execSStep_execute_nop (s := s.afterDecode [] d) hnop hcfg hworkE haccW
  have hworkW : ((s.afterDecode [] d).afterExecute [] t (completedWith { d with cost := k } res)).worksOn .w _ [] :=
    State.worksOn_of_receiving rfl haccW hemptyW hflagW
  have hwriteback := execSStep_writeback_plain hworkW (hnop.completed_committable k res) hclean hnop.isLoad
    (hnop.completed_not_branch k res)
  obtain ⟨x, l, trace, draws, hfaults, rfl⟩ := htiers
  refine ⟨_, (runInstrs_cons hdecode _).trans ((runInstrs_cons hexecute _).trans (runInstrs_cons hwriteback [])),
    rfl, rfl, rfl, rfl, rfl, rfl, rfl, rfl, rfl, rfl, ?_, hfaults, l, ?_⟩
  · exact congrArg (· + 1) ((s.afterDecode [] d).receiving_processed .w _)
  · exact congrArg (fun pc => s.events ++ l ++ [Event.instructionCommitted pc]) hpc

end Sys2Proof.Machine
end

section
/-! PROOFS. Execute (44_execute.md): tiering (R250 to R252, R255), as one equation for a tier step. -/

namespace Sys2Proof.Machine

/-! ## The mode of a visit, and what it publishes -/

/-- The mode of a PC's `n`-th visit (R251). -/
def State.modeAt (s : State) (n : Nat) : ExecMode :=
  if n < s.cfg.profilingThreshold then .interpret
  else if n < s.cfg.compilationThreshold then .profile
  else if s.nextDraw % 2 = 1 then .compiled else .profile

/-- The `n`-th visit of a PC is the JitCompiler's to answer (R251). -/
abbrev State.hotAt (s : State) (n : Nat) : Prop := s.cfg.profilingThreshold ≤ n ∧ s.cfg.compilationThreshold ≤ n

/-- A visit counted in `e` is the one that requests the compilation of its PC (R252). -/
abbrev State.asksAt (s : State) (e : TierEntry) : Prop :=
  s.hotAt e.count ∧ s.modeAt e.count = .profile ∧ e.compileRequested = false

/-- The event of a compilation request, where the visit makes one (R252). -/
def State.requestEvents (s : State) (e : TierEntry) (pc : Word) : List Event :=
  if s.asksAt e then [.compilationRequested pc] else []

/-- The event of a change of the recorded mode, where there is one (R255). -/
def modeEvents (old : Option ExecMode) (new : ExecMode) (pc : Word) : List Event :=
  match old with
  | some m => if m = new then [] else [.modeChanged pc m new]
  | none => []

theorem State.requestEvents_asks {s : State} {e : TierEntry} (h : s.asksAt e) (pc : Word) :
    s.requestEvents e pc = [.compilationRequested pc] := if_pos h

theorem State.requestEvents_quiet {s : State} {e : TierEntry} (h : ¬ s.asksAt e) (pc : Word) :
    s.requestEvents e pc = [] := if_neg h

theorem State.requestEvents_length (s : State) (e : TierEntry) (pc : Word) :
    (s.requestEvents e pc).length = if s.asksAt e then 1 else 0 :=
  apply_ite List.length _ _ _

theorem modeEvents_length_changed {old : Option ExecMode} {new : ExecMode} (pc : Word)
    (h : ∃ m, old = some m ∧ m ≠ new) : (modeEvents old new pc).length = 1 := by
  obtain ⟨m, rfl, hm⟩ := h
  simp [modeEvents, hm]

theorem modeEvents_length_unchanged {old : Option ExecMode} {new : ExecMode} (pc : Word)
    (h : ¬ ∃ m, old = some m ∧ m ≠ new) : (modeEvents old new pc).length = 0 := by
  cases old with
  | none => rfl
  | some m =>
    have hm : m = new := by simpa using h
    simp [modeEvents, hm]

/-! ## Each part of a tier step as one update -/

/-- Choosing the mode: the request is marked, counted and published, and the JitCompiler's answer is drawn, where they are. -/
theorem State.modeFor_eq (s : State) (e : TierEntry) (pc : Word) : s.modeFor e pc =
    (s.modeAt e.count, { e with compileRequested := e.compileRequested || decide (s.asksAt e) }, { s with
      ex := { s.ex with compilationTriggers := s.ex.compilationTriggers + (s.requestEvents e pc).length }
      events := s.events ++ s.requestEvents e pc
      draws := if s.hotAt e.count then s.restDraws else s.draws }) := by
  have hanswer : s.hasCompiledBlock = (s.nextDraw % 2 == 1, { s with draws := s.restDraws }) := rfl
  unfold State.modeFor
  by_cases hinterpret : e.count < s.cfg.profilingThreshold
  · have hcold : ¬ s.hotAt e.count := fun ⟨hle, _⟩ => Nat.not_lt.mpr hle hinterpret
    have hquiet : ¬ s.asksAt e := fun h => hcold h.1
    simp [State.requestEvents_quiet hquiet, State.modeAt, hinterpret, hcold, hquiet]
  by_cases hprofile : e.count < s.cfg.compilationThreshold
  · have hcold : ¬ s.hotAt e.count := fun ⟨_, hle⟩ => Nat.not_lt.mpr hle hprofile
    have hquiet : ¬ s.asksAt e := fun h => hcold h.1
    simp [State.requestEvents_quiet hquiet, State.modeAt, hinterpret, hprofile, hcold, hquiet]
  have hhot : s.hotAt e.count := ⟨Nat.not_lt.mp hinterpret, Nat.not_lt.mp hprofile⟩
  by_cases hblock : s.nextDraw % 2 = 1
  · have hmode : s.modeAt e.count = .compiled := by simp [State.modeAt, hinterpret, hprofile, hblock]
    have hquiet : ¬ s.asksAt e := fun ⟨_, hother, _⟩ => nomatch hmode.symm.trans hother
    simp [State.requestEvents_quiet hquiet, hinterpret, hprofile, hhot, hblock, hanswer, hmode, hquiet]
  have hmode : s.modeAt e.count = .profile := by simp [State.modeAt, hinterpret, hprofile, hblock]
  by_cases hreq : e.compileRequested = true
  · have hquiet : ¬ s.asksAt e := fun ⟨_, _, hnone⟩ => Bool.false_ne_true (hnone.symm.trans hreq)
    have hmarked : { e with compileRequested := true } = e := by rw [← hreq]
    simp [State.requestEvents_quiet hquiet, State.requestCompile, hinterpret, hprofile, hhot, hblock, hanswer, hmode, hreq,
      hmarked]
  · have hasks : s.asksAt e := ⟨hhot, hmode, Bool.not_eq_true _ ▸ hreq⟩
    simp [State.requestEvents_asks hasks, State.requestCompile, State.emit, hinterpret, hprofile, hhot, hblock, hanswer,
      hmode, hreq]

theorem State.noteMode_eq (s : State) (old : Option ExecMode) (new : ExecMode) (pc : Word) : s.noteMode old new pc = { s with
    ex := { s.ex with modeChanges := s.ex.modeChanges + (modeEvents old new pc).length }
    events := s.events ++ modeEvents old new pc } := by
  unfold State.noteMode
  cases old with
  | none => simp [modeEvents]
  | some m => by_cases hm : m = new <;> simp [modeEvents, hm, State.emit]

/-- The record of a PC with one visit more (R250). -/
def TierEntry.visited (e : TierEntry) : TierEntry := { e with count := e.count + 1 }

/-- A tier step, field by field (R250). -/
theorem State.tierStep_eq (s : State) (r : InstrRecord) :
    let e := tierGet s.ex.tier r.pc.toNat
    let mode := s.modeAt e.visited.count
    s.tierStep r = (mode, { s with
      ex := { s.ex with
        tier := tierSet s.ex.tier r.pc.toNat { e.visited with
          mode := some mode, compileRequested := e.compileRequested || decide (s.asksAt e.visited) }
        modeChanges := s.ex.modeChanges + (modeEvents e.mode mode r.pc).length
        compilationTriggers := s.ex.compilationTriggers + (s.requestEvents e.visited r.pc).length }
      events := s.events ++ s.requestEvents e.visited r.pc ++ modeEvents e.mode mode r.pc
      draws := if s.hotAt e.visited.count then s.restDraws else s.draws }) := by
  intro e mode
  unfold State.tierStep
  simp only [State.modeFor_eq, State.noteMode_eq]
  rfl

/-- Settles O40: every clause is a field of the one update a tier step is. -/
theorem tierModes : Obligations.TierModes := by
  intro s r hgood e n hot mode asks requested changed
  obtain ⟨-, -, hrising, -⟩ := hgood
  have htable (pc : Nat) := fun v => tierGet_tierSet r.pc.toNat pc v s.ex.tier hrising
  have hvisited := fun v => (htable r.pc.toNat v).trans (if_pos rfl)
  have hrequests := s.requestEvents_length e.visited r.pc
  rw [s.tierStep_eq r]
  refine ⟨rfl, rfl, fun pc hpc => (htable pc _).trans (if_neg hpc), congrArg TierEntry.count (hvisited _),
    congrArg TierEntry.mode (hvisited _), ?_, fun h => ?_, fun h => ?_, fun h => ?_, fun h => ?_⟩
  · rw [hvisited, Bool.or_eq_true, decide_eq_true_eq]
    rfl
  · exact congrArg (s.ex.compilationTriggers + ·) (hrequests.trans (if_pos h))
  · exact congrArg (s.ex.compilationTriggers + ·) (hrequests.trans (if_neg h))
  · exact congrArg (s.ex.modeChanges + ·) (modeEvents_length_changed r.pc h)
  · exact congrArg (s.ex.modeChanges + ·) (modeEvents_length_unchanged r.pc h)

end Sys2Proof.Machine
end

section
/-! PROOFS. Execute (44_execute.md): register 31 (R244, R341). Every action of the execution unit commutes with a change of what
the slots of register 31 hold. -/

namespace Sys2Proof.Machine

section
variable (s : State) (r : InstrRecord) (v w : Word)

/-! ## Registers and data memory under other slots -/

theorem RegNum.toNat_ne_31 {k : RegNum} (h : k ≠ 31) : 31 ≠ k.toNat := fun heq => h (BitVec.eq_of_toNat_eq heq.symm)

@[simp] theorem State.withSlot31_cfg : (s.withSlot31 v w).cfg = s.cfg := rfl

@[simp] theorem State.withSlot31_sys : (s.withSlot31 v w).sys = s.sys := rfl

@[simp] theorem State.readInt_withSlot31 (k : RegNum) : (s.withSlot31 v w).readInt k = s.readInt k := by
  unfold State.readInt
  split
  case isTrue => rfl
  case isFalse hk => exact Vector.getElem_set_ne (by decide) _ (RegNum.toNat_ne_31 hk)

@[simp] theorem State.intsRead_withSlot31 : (s.withSlot31 v w).intsRead = s.intsRead := Vector.set_set ..

@[simp] theorem State.floatsRead_withSlot31 : (s.withSlot31 v w).floatsRead = s.floatsRead := Vector.set_set ..

@[simp] theorem State.unitView_withSlot31 (answers : List (Option (List Byte))) (n : Nat) :
    (s.withSlot31 v w).unitView r answers n = s.unitView r answers n := by simp [State.unitView]

@[simp] theorem State.effAddr_withSlot31 : (s.withSlot31 v w).effAddr r = s.effAddr r := by simp [State.effAddr]

@[simp] theorem State.operandB_withSlot31 : (s.withSlot31 v w).operandB r = s.operandB r := by simp [State.operandB]

@[simp] theorem State.writeInt_withSlot31 (k : RegNum) (x : Word) :
    (s.withSlot31 v w).writeInt k x = (s.writeInt k x).withSlot31 v w := by
  unfold State.writeInt
  split
  case isTrue => rfl
  case isFalse hk =>
    exact congrArg (fun ints => { s with ints := ints, floats := s.floats.set 31 w })
      (Vector.set_comm _ _ (RegNum.toNat_ne_31 hk))

@[simp] theorem State.writeFloat_withSlot31 (k : RegNum) (x : Word) :
    (s.withSlot31 v w).writeFloat k x = (s.writeFloat k x).withSlot31 v w := by
  unfold State.writeFloat
  split
  case isTrue => rfl
  case isFalse hk =>
    exact congrArg (fun floats => { s with ints := s.ints.set 31 v, floats := floats })
      (Vector.set_comm _ _ (RegNum.toNat_ne_31 hk))

@[simp] theorem State.dataRead_withSlot31 (a : Word) (n : Nat) :
    (s.withSlot31 v w).dataRead a n = ((s.dataRead a n).1, (s.dataRead a n).2.withSlot31 v w) := by
  simp only [State.dataRead, State.withSlot31_cfg, State.withSlot31_sys]
  cases s.cfg.dataPath with
  | hierarchy => cases cacheRead s.cfg .data a n s.sys <;> rfl
  | memory => rfl

@[simp] theorem State.dataWrite_withSlot31 (a : Word) (bytes : List Byte) :
    (s.withSlot31 v w).dataWrite a bytes = (s.dataWrite a bytes).withSlot31 v w := by
  simp only [State.dataWrite, State.withSlot31_cfg, State.withSlot31_sys]
  cases s.cfg.dataPath with
  | hierarchy => cases cacheWrite s.cfg a bytes s.sys <;> rfl
  | memory => rfl

@[simp] theorem State.writeAnswer_withSlot31 (a : Word) (n : Nat) :
    (s.withSlot31 v w).writeAnswer a n = s.writeAnswer a n := rfl

end

/-- A register put back as it stood: register 31 to its slot's new contents, another to the contents it has in either bank. -/
theorem RegNum.put_back_slot31 (old new : Vector Word 32) (k : RegNum) (x : Word) :
    (new.set 31 x).set k.toNat ((old.set 31 x)[k.toNat]'k.isLt) k.isLt =
      (new.set k.toNat (old[k.toNat]'k.isLt) k.isLt).set 31 x := by
  by_cases hk : k = 31
  · subst hk
    simp
  · rw [Vector.getElem_set_ne (by decide) _ (RegNum.toNat_ne_31 hk), Vector.set_comm _ _ (RegNum.toNat_ne_31 hk)]

theorem State.keepDest_withSlot31 (old s : State) (r : InstrRecord) (v w : Word) :
    (old.withSlot31 v w).keepDest r (s.withSlot31 v w) = (old.keepDest r s).withSlot31 v w := by
  cases hfloat : old.cfg.floatDestOf r.opcode with
  | true =>
    simp only [State.keepDest, State.withSlot31_cfg, hfloat, if_true]
    exact congrArg (fun floats => { s with ints := s.ints.set 31 v, floats := floats }) (RegNum.put_back_slot31 ..)
  | false =>
    simp only [State.keepDest, State.withSlot31_cfg, hfloat, Bool.false_eq_true, if_false]
    exact congrArg (fun ints => { s with ints := ints, floats := s.floats.set 31 w }) (RegNum.put_back_slot31 ..)

/-! ## Executions under other slots -/

/-- The end of an execution, with other contents of the slots of register 31. -/
def withSlot31End (v w : Word) (out : UnitOutcome × State) : UnitOutcome × State := (out.1, out.2.withSlot31 v w)

section
variable (s : State) (r : InstrRecord) (v w : Word)

theorem unitLoop_withSlot31 (own : Bool) : ∀ (fuel : Nat) (answers : List (Option (List Byte))) (n : Nat) (s : State),
    unitLoop r own fuel answers n (s.withSlot31 v w) = withSlot31End v w (unitLoop r own fuel answers n s)
  | 0, _, _, _ => rfl
  | fuel + 1, answers, n, s => by
    have ih := unitLoop_withSlot31 own fuel
    unfold unitLoop
    rw [State.unitView_withSlot31]
    cases Config.unitAction (s.unitView r answers n) with
    | setInt k x => simp [ih]
    | setFloat k x => simp [ih]
    | readMem a => cases own <;> simp [ih, withSlot31End]
    | writeMem a bytes => cases own <;> simp [ih, withSlot31End]
    | done res => rfl
    | fault => rfl

theorem loadEnd_withSlot31 (bytes : Option (List Byte)) (out : UnitOutcome × State) :
    loadEnd r bytes (s.withSlot31 v w) (withSlot31End v w out) = withSlot31End v w (loadEnd r bytes s out) := by
  obtain ⟨_ | _, t⟩ := out
  · exact congrArg (Prod.mk _) (s.keepDest_withSlot31 t r v w)
  · rfl

theorem faultFreely_withSlot31 : faultFreely r (s.withSlot31 v w) = withSlot31End v w (faultFreely r s) := by
  simp [faultFreely, unitLoop_withSlot31, withSlot31End]

theorem collaborate_withSlot31 : collaborate r (s.withSlot31 v w) = withSlot31End v w (collaborate r s) := by
  simp only [collaborate, State.unitView_withSlot31, State.effAddr_withSlot31, State.dataRead_withSlot31,
    State.writeAnswer_withSlot31, State.dataWrite_withSlot31, unitLoop_withSlot31, faultFreely_withSlot31,
    loadEnd_withSlot31, apply_ite (withSlot31End v w)]

theorem xu1Operate_withSlot31 : xu1Operate r (s.withSlot31 v w) = withSlot31End v w (xu1Operate r s) := by
  simp only [xu1Operate, State.readInt_withSlot31, State.operandB_withSlot31, State.writeInt_withSlot31,
    apply_ite (withSlot31End v w)]
  rfl

theorem xu1Load_withSlot31 : xu1Load r (s.withSlot31 v w) = withSlot31End v w (xu1Load r s) := by
  simp only [xu1Load, State.effAddr_withSlot31, State.dataRead_withSlot31]
  rcases s.dataRead (s.effAddr r) 8 with ⟨_ | b, t⟩
  · exact collaborate_withSlot31 s r v w
  · rfl

theorem xu1Store_withSlot31 : xu1Store r (s.withSlot31 v w) = withSlot31End v w (xu1Store r s) := by
  simp only [xu1Store, State.withSlot31_cfg, State.effAddr_withSlot31, State.readInt_withSlot31,
    State.dataWrite_withSlot31, collaborate_withSlot31, apply_ite (withSlot31End v w)]
  rfl

theorem xu1_withSlot31 : xu1 r (s.withSlot31 v w) = withSlot31End v w (xu1 r s) := by
  unfold xu1
  cases r.cls with
  | operate => exact xu1Operate_withSlot31 s r v w
  | memory =>
    simp only [xu1Load_withSlot31, xu1Store_withSlot31, collaborate_withSlot31, apply_ite (withSlot31End v w)]
  | branch =>
    simp only [State.readInt_withSlot31, collaborate_withSlot31, apply_ite (withSlot31End v w)]
    rfl
  | jump | floatOp | misc | invalid => exact collaborate_withSlot31 s r v w

/-- The no-op word changes no state, and either unit sees and writes registers through the RegisterFile alone. -/
theorem execUnit_withSlot31 : execUnit r (s.withSlot31 v w) = withSlot31End v w (execUnit r s) := by
  simp only [execUnit, State.withSlot31_cfg]
  split
  · rfl
  · cases s.cfg.unit with
    | collaborator => exact collaborate_withSlot31 s r v w
    | xu1 => exact xu1_withSlot31 s r v w

end

/-! ## Writeback's load (R268) -/

theorem State.writeLoad_31 (s : State) {r : InstrRecord} (h : r.ra = 31) : s.writeLoad r = s := by
  rw [State.writeLoad, h, State.writeFloat_31, State.writeInt_31, ite_self]

/-- Settles O60: the clauses on accesses are their own lemmas; an execution is made of accesses. -/
theorem registerThirtyOne : Obligations.RegisterThirtyOne := by
  intro s r v w
  exact ⟨s.readInt_31, s.readFloat_31, s.writeInt_31 v, s.writeFloat_31 v, s.writeLoad_31,
    fun _ _ k => ⟨s.intsRead_get k, s.floatsRead_get k⟩, execUnit_withSlot31 s r v w⟩

end Sys2Proof.Machine
end

section
/-! PROOFS. Execute (44_execute.md): the no-op word's operands and cost class under any legal configuration (R241, R245). -/

namespace Sys2Proof.Machine

/-- What Decode leaves of a word in every class (R220). -/
theorem decodeRecord_common (c : Config) (w : IWord) (r : InstrRecord) : let d := decodeRecord c w r
    d.opcode = opcodeOf w ∧ d.cls = c.classOfOpcode (opcodeOf w) ∧ d.ra = raOf w ∧ d.rb = rbOf w ∧ d.rc = rcOf w := by
  intro d
  have hfields : d = _ := decodeFields c w r
  rw [hfields]
  exact ⟨rfl, rfl, rfl, rfl, rfl⟩

/-- A legal configuration keeps the no-op word, as Decode leaves it, from being Heavy (R245). -/
theorem Config.ok_nop_not_heavy {c : Config} (h : c.ok = true) (r : InstrRecord) : let d := decodeRecord c nopCode r
    c.costClass d.cls d.opcode d.func ≠ .heavy := by
  intro d
  have hnop : c.nopOk = true := by
    have := (Config.ok_iff c).mp h
    tauto
  obtain ⟨hopcode, hcls, -⟩ := decodeRecord_common c nopCode r
  obtain ⟨-, hcost⟩ := Bool.and_eq_true_iff.mp hnop
  rw [hcls, hopcode, decodeRecord_nopFunc]
  exact bne_iff_ne.mp hcost

/-- Settles O37: the no-op word's execution, its fields, and what a legal configuration keeps of its costs. -/
theorem nopHasNoEffect : Obligations.NopHasNoEffect := by
  refine ⟨fun s r hraw => ⟨nopDone r, execUnit_nop s r hraw, rfl⟩, fun c r => ?_,
    fun c hok => ⟨Config.ok_nop_not_heavy hok, Config.costOk_all c hok⟩⟩
  obtain ⟨-, -, hra, hrb, hrc⟩ := decodeRecord_common c nopCode r
  exact ⟨hra, hrb, hrc⟩

end Sys2Proof.Machine
end

section
/-! PROOFS. Writeback (45_writeback.md): what its `process` function makes of a state, ending by ending (R265 to R271), and the
worker's step around it (R175). -/

namespace Sys2Proof.Machine

/-! ## The worker's step (R175) -/

/-- A stage whose worker has counted an instruction of `c` time units and given its permit back (R175). -/
def Stage.finished (st : Stage) (c : Nat) : Stage :=
  { st with
    freePermits := st.freePermits + 1
    stats := { st.stats with processed := st.stats.processed + 1, totalCycles := st.stats.totalCycles + c } }

/-- A step of Writeback's worker on an instruction: `writeback`, then the bookkeeping on the stage as `writeback` leaves it. -/
theorem execSStep_writeback {s : State} {r : InstrRecord} {rest : List InstrRecord} (hwork : s.worksOn .w r rest) {t : State}
    (hwrite : (s.processing .w rest).writeback r = t) : exec (.sStep .w) s = .next { t with
      stages := { t.stages with w := t.stages.w.finished s.nextDraw }
      resp := replyOk } := by
  have ⟨hrun, hflag, hqueue⟩ := hwork
  have hprocess : processW r (s.processing .w rest) = (.noOutput, t) := congrArg (Prod.mk _) hwrite
  rw [execSStep_running hrun, show s.workerStep .w = s.iterate .w processW from rfl, s.iterate_work .w processW hflag hqueue,
    s.work_noOutput .w processW r t (by rw [State.dequeue_draw hwork]; exact hprocess), State.dequeue_draw hwork]
  rfl

/-! ## The gate and the exception (R266, R271, R273) -/

theorem committable_iff (r : InstrRecord) :
    committable r = true ↔ r.valid = true ∧ r.decoded = true ∧ r.executed = true := by
  simp only [committable, Bool.and_eq_true, and_assoc]

theorem State.commitFailure_eq (s : State) : s.commitFailure = { s with
    stages := { s.stages with
      w := { s.stages.w with stats := { s.stages.w.stats with stallCycles := s.stages.w.stats.stallCycles + 1 } } }
    wb := { s.wb with commitFailures := s.wb.commitFailures + 1 }
    events := s.events ++ [.stageStalled .w] } := rfl

/-- Settles O43: the gate's failure, with the worker's bookkeeping around it. -/
theorem commitGate : Obligations.CommitGate := by
  intro s r rest hwork hgate
  have hfails : committable r = false := Bool.eq_false_iff.mpr fun h => hgate ((committable_iff r).mp h)
  rw [execSStep_writeback hwork (State.writeback_failure _ r hfails), State.commitFailure_eq]
  rfl

/-- What a prune keeps by age is what is younger than the bound (R273). -/
theorem pruneLog_eq (cap maxAge seq : Nat) (log : List ExcEntry) :
    let young := log.filter fun e => decide (seq - e.stamp < maxAge)
    pruneLog cap maxAge seq log = young.drop (young.length - cap) := by
  have hyoung : (fun e : ExcEntry => !decide (maxAge ≤ seq - e.stamp)) = fun e => decide (seq - e.stamp < maxAge) :=
    funext fun e => by rw [← decide_not, decide_eq_decide, Nat.not_le]
  rw [pruneLog, hyoung]

/-- Settles O46: the exception's effects, with the log's prune in the statement's terms. -/
theorem exceptionAtWriteback : Obligations.ExceptionAtWriteback := by
  intro s r rest hwork hvalid hdecoded hexecuted hraises seq entry young
  have hgate := (committable_iff r).mpr ⟨hvalid, hdecoded, hexecuted⟩
  have hlog : pruneLog s.cfg.excLogCap s.cfg.excLogMaxAge seq (s.wb.excLog ++ [entry]) =
      young.drop (young.length - s.cfg.excLogCap) := pruneLog_eq _ _ _ _
  rw [execSStep_writeback hwork (State.writeback_exception _ r hgate hraises), ← hlog]
  rfl

/-! ## The load (R268) -/

/-- A load's value in the statements' terms: extended from the low bits its size says (R268). -/
theorem extendLoad_eq (size : AccessSize) (v : Word) : extendLoad size v =
    match size with
    | .b1 => (v.setWidth 8).signExtend 64
    | .b2 => (v.setWidth 16).signExtend 64
    | .b4 => (v.setWidth 32).signExtend 64
    | .b8 => v := by
  cases size with
  | b1 | b2 | b4 => simp [extendLoad, BitVec.setWidth_eq_extractLsb']
  | b8 => rfl

/-- The state with the register of an instruction written, where it is a load (R265, R268): in the bank `floatDest` names,
and not register 31. -/
def State.loaded (s : State) (r : InstrRecord) : State :=
  let v := extendLoad r.accessSize r.loadValue
  let float := s.cfg.floatDestOf r.opcode
  { s with
    ints := if r.isLoad = true ∧ float = false ∧ r.ra ≠ 31 then s.ints.set r.ra.toNat v r.ra.isLt else s.ints
    floats := if r.isLoad = true ∧ float = true ∧ r.ra ≠ 31 then s.floats.set r.ra.toNat v r.ra.isLt else s.floats }

theorem State.writeLoad_eq_loaded (s : State) {r : InstrRecord} (hload : r.isLoad = true) : s.writeLoad r = s.loaded r := by
  cases hfloat : s.cfg.floatDestOf r.opcode with
  | true | false =>
    by_cases hzero : r.ra = 31#5 <;>
      simp [State.writeLoad, State.writeInt, State.writeFloat, State.loaded, hload, hfloat, hzero]

theorem State.loaded_of_not_load (s : State) {r : InstrRecord} (hload : ¬ r.isLoad = true) : s.loaded r = s := by
  simp [State.loaded, hload]

/-! ## The branch (R270, R298) -/

theorem realizedTarget_taken {r : InstrRecord} (htaken : branchTaken r = true) : realizedTarget r =
    if r.cls = .jump then r.jumpTarget &&& 0xFFFFFFFFFFFFFFFC else r.branchTarget := if_pos htaken

theorem realizedTarget_not_taken {r : InstrRecord} (htaken : branchTaken r = false) : realizedTarget r = r.pc + 4 :=
  if_neg (Bool.eq_false_iff.mp htaken)

theorem State.branchRedirect_eq (s : State) (t : Word) : s.branchRedirect t = { s with
    fetch := { s.fetch with branchTarget := if t &&& 3 = 0 then some t else s.fetch.branchTarget } } := by
  simp only [← aligned4_iff_and_three, State.branchRedirect]
  by_cases haligned : aligned4 t = true
  · rw [State.redirect_aligned haligned, if_pos haligned]
    rfl
  · rw [State.redirect_misaligned haligned, if_neg haligned]
    rfl

theorem raiseFlush_eq (st : Stage) : raiseFlush st = st.flagged := by
  obtain ⟨life, queue, flag, limit, permits, stats⟩ := st
  cases life <;> simp [raiseFlush, Stage.flagged]

theorem State.runningCount_ne_zero {s : State} {id : StageId} (h : (s.stages.get id).life = .running) :
    s.runningCount ≠ 0 :=
  (List.length_pos_of_mem (List.mem_filter.mpr ⟨StageId.mem_all id, (s.running_iff id).mpr h⟩)).ne'

theorem State.runningCount_eq (s : State) : s.runningCount =
    ([s.stages.f, s.stages.d, s.stages.e, s.stages.w].filter (fun x => x.life == .running)).length := by
  have hstages : [s.stages.f, s.stages.d, s.stages.e, s.stages.w] = StageId.all.map s.stages.get := rfl
  rw [hstages, List.filter_map, List.length_map]
  rfl

/-- A worker taking an instruction up leaves every stage's lifecycle as it was. -/
theorem State.processing_runningCount (s : State) (id : StageId) (rest : List InstrRecord) :
    (s.processing id rest).runningCount = s.runningCount := by
  have hrunning : (s.processing id rest).running = s.running := funext fun j => by
    cases id <;> cases j <;> rfl
  rw [State.runningCount, hrunning, State.runningCount]

/-- While a stage runs, a branch past the fallthrough begins a flush from Running (R290, R298). -/
theorem State.controllerBranch_flush {s : State} {pc t : Word} (hflush : t ≠ pc + 4 ∧ s.ctrl.pstate = .running)
    (hrun : s.runningCount ≠ 0) : s.controllerBranch pc t = { s with
      stages := ⟨s.stages.f.flagged, s.stages.d.flagged, s.stages.e.flagged, s.stages.w.flagged⟩
      ctrl := { s.ctrl with pstate := .flushing, pendingFlush := s.runningCount } } := by
  simp only [State.controllerBranch, if_pos hflush, s.beginFlush_some hrun, raiseFlush_eq]

theorem State.controllerBranch_ignored {s : State} {pc t : Word} (hflush : ¬ (t ≠ pc + 4 ∧ s.ctrl.pstate = .running)) :
    s.controllerBranch pc t = s := if_neg hflush

theorem State.resolveBranch_not_taken (s : State) {r : InstrRecord} (htaken : branchTaken r = false) :
    s.resolveBranch r = { s with
      wb := { s.wb with branchesNotTaken := s.wb.branchesNotTaken + 1 }
      events := s.events ++ [.branchResolved r.pc false (r.pc + 4)] } := by
  simp only [State.resolveBranch, htaken, realizedTarget_not_taken htaken]
  rfl

theorem State.resolveBranch_taken (s : State) {r : InstrRecord} (htaken : branchTaken r = true) :
    let target := realizedTarget r
    let redirected : State := { s with
      fetch := { s.fetch with branchTarget := if target &&& 3 = 0 then some target else s.fetch.branchTarget }
      wb := { s.wb with branchesTaken := s.wb.branchesTaken + 1, branchRedirects := s.wb.branchRedirects + 1 }
      events := s.events ++ [.branchResolved r.pc true target] }
    s.resolveBranch r = redirected.controllerBranch r.pc target := by
  simp only [State.resolveBranch, htaken, if_true, State.branchRedirect_eq]
  rfl

/-! ## The commit (R265, R267, R269) -/

theorem isBranch_iff (r : InstrRecord) : isBranch r = true ↔ r.cls = .branch ∨ r.cls = .jump := by
  simp only [isBranch, Bool.or_eq_true, beq_iff_eq]

/-- A commit: the load's write, then the branch, then the count (R265). -/
theorem State.commit_eq (s : State) (r : InstrRecord) :
    let t := if isBranch r then (s.loaded r).resolveBranch r else s.loaded r
    s.commit r = { t with
      wb := { t.wb with instructionsCommitted := t.wb.instructionsCommitted + 1 }
      events := t.events ++ [.instructionCommitted r.pc] } := by
  have hload : (if r.isLoad then s.writeLoad r else s) = s.loaded r := by
    split
    · exact s.writeLoad_eq_loaded ‹_›
    · exact (s.loaded_of_not_load ‹_›).symm
  rw [State.commit, hload]
  rfl

/-- Settles O44: the load's write and the count, no branch between them. -/
theorem commitLoadsAndOthers : Obligations.CommitLoadsAndOthers := by
  intro s r rest hwork hvalid hdecoded hexecuted hclean hbranch hjump v float
  have hgate := (committable_iff r).mpr ⟨hvalid, hdecoded, hexecuted⟩
  have hplain : ¬ isBranch r = true := fun h => ((isBranch_iff r).mp h).elim hbranch hjump
  have hvalue : v = extendLoad r.accessSize r.loadValue := (extendLoad_eq _ _).symm
  rw [execSStep_writeback hwork (State.writeback_commit _ r hgate hclean), State.commit_eq, if_neg hplain, hvalue]
  rfl

/-- Settles O45: the load's write, the branch's resolution, taken or not, and the count. -/
theorem commitBranches : Obligations.CommitBranches := by
  intro s r rest hwork hvalid hdecoded hexecuted hclean hbranch v float ints floats taken target st running
  have hgate := (committable_iff r).mpr ⟨hvalid, hdecoded, hexecuted⟩
  have hvalue : v = extendLoad r.accessSize r.loadValue := (extendLoad_eq _ _).symm
  rw [execSStep_writeback hwork (State.writeback_commit _ r hgate hclean), State.commit_eq,
    if_pos ((isBranch_iff r).mpr hbranch)]
  subst ints floats
  rw [hvalue]
  constructor
  · intro htaken
    rw [State.resolveBranch_not_taken _ htaken, List.append_cons s.events]
    rfl
  · intro htaken
    have htarget : realizedTarget r = target := realizedTarget_taken htaken
    have hcount : (s.processing .w rest).runningCount = running :=
      (s.processing_runningCount .w rest).trans s.runningCount_eq
    have hrun : (s.processing .w rest).runningCount ≠ 0 :=
      (s.processing_runningCount .w rest).trans_ne (State.runningCount_ne_zero hwork.1)
    rw [State.resolveBranch_taken _ htaken, htarget, List.append_cons s.events, ← hcount]
    by_cases hflush : target ≠ r.pc + 4 ∧ s.ctrl.pstate = .running
    · rw [if_pos hflush, if_pos hflush, State.controllerBranch_flush]
      · rfl
      · exact hflush
      · exact hrun
    · rw [if_neg hflush, if_neg hflush, State.controllerBranch_ignored]
      · rfl
      · exact hflush

/-! ## The three endings (R277) -/

/-- Raising the flush flags, or not, leaves the queue of Writeback and what it has processed (R290). -/
theorem StageMap.ite_flagged_w {p : Prop} {_ : Decidable p} (m : StageMap Stage) :
    let m' : StageMap Stage := if p then ⟨m.f.flagged, m.d.flagged, m.e.flagged, m.w.flagged⟩ else m
    m'.w.queue = m.w.queue ∧ m'.w.stats.processed = m.w.stats.processed := by
  split <;> exact ⟨rfl, rfl⟩

/-- Settles O47: the ending is read off the step's result, gate's failure, exception, and the commits. -/
theorem writebackEndsOnce : Obligations.WritebackEndsOnce := by
  intro s t r rest hwork hstep
  by_cases hgate : r.valid = true ∧ r.decoded = true ∧ r.executed = true
  · obtain ⟨hvalid, hdecoded, hexecuted⟩ := hgate
    cases hraises : r.hasException with
    | true =>
      have hexec := exceptionAtWriteback s r rest hwork hvalid hdecoded hexecuted hraises
      obtain rfl := Host.Outcome.next.inj (hexec.symm.trans hstep)
      exact ⟨rfl, rfl, .inr (.inr ⟨rfl, rfl, rfl⟩)⟩
    | false =>
      by_cases hbranch : r.cls = .branch ∨ r.cls = .jump
      · obtain ⟨huntaken, htaken⟩ := commitBranches s r rest hwork hvalid hdecoded hexecuted hraises hbranch
        cases hdecided : r.isUnconditional || (r.isConditional && r.condResult) with
        | true =>
          obtain rfl := Host.Outcome.next.inj ((htaken hdecided).symm.trans hstep)
          exact and_assoc.mp ⟨StageMap.ite_flagged_w { s.stages with w := s.stages.w.worked rest s.nextDraw },
            .inl ⟨rfl, rfl, rfl⟩⟩
        | false =>
          obtain rfl := Host.Outcome.next.inj ((huntaken hdecided).symm.trans hstep)
          exact ⟨rfl, rfl, .inl ⟨rfl, rfl, rfl⟩⟩
      · obtain ⟨hnb, hnj⟩ := not_or.mp hbranch
        have hexec := commitLoadsAndOthers s r rest hwork hvalid hdecoded hexecuted hraises hnb hnj
        obtain rfl := Host.Outcome.next.inj (hexec.symm.trans hstep)
        exact ⟨rfl, rfl, .inl ⟨rfl, rfl, rfl⟩⟩
  · obtain rfl := Host.Outcome.next.inj ((commitGate s r rest hwork hgate).symm.trans hstep)
    exact ⟨rfl, rfl, .inr (.inl ⟨rfl, rfl, rfl⟩)⟩

end Sys2Proof.Machine
end

section
/-! PROOFS. The controller (46_controller.md): `K.FLUSH`, `K.EXCEPTION` and `K.ADVANCE` (R287, R290, R293), the recovery with its
circuit breaker (R294, R295), and the transition table (R285). -/

namespace Sys2Proof.Machine

/-! ## The flush (R290) -/

theorem Stage.flagged_idle {st : Stage} (h : st.life ≠ .running) : st.flagged = st :=
  (raiseFlush_eq st).symm.trans (if_neg h)

/-- Where no stage runs, no flag is raised. -/
theorem State.flagged_stages_idle {s : State} (h : s.runningCount = 0) :
    (⟨s.stages.f.flagged, s.stages.d.flagged, s.stages.e.flagged, s.stages.w.flagged⟩ : StageMap Stage) = s.stages := by
  have hkept (id : StageId) : (s.stages.get id).flagged = s.stages.get id :=
    Stage.flagged_idle fun hrun => State.runningCount_ne_zero hrun h
  exact congr (congr (congr (congrArg StageMap.mk (hkept .f)) (hkept .d)) (hkept .e)) (hkept .w)

/-- The lifecycles of the stages say how many run. -/
theorem State.runningCount_congr {s t : State} (h : ∀ id, (t.stages.get id).life = (s.stages.get id).life) :
    t.runningCount = s.runningCount := by
  have hrunning : t.running = s.running := funext fun id => by simp only [State.running, State.stage, h id]
  rw [State.runningCount, hrunning, State.runningCount]

/-- All that a flush does, with stages Running or without: raising the flag of a stage that does not run is nothing (R290). -/
theorem State.beginFlush_eq (s : State) : s.beginFlush = { s with
    stages := ⟨s.stages.f.flagged, s.stages.d.flagged, s.stages.e.flagged, s.stages.w.flagged⟩
    ctrl := { s.ctrl with
      pstate := if s.runningCount = 0 then .running else .flushing
      pendingFlush := if s.runningCount = 0 then s.ctrl.pendingFlush else s.runningCount
      recovering := s.ctrl.recovering && s.runningCount != 0 } } := by
  by_cases hnone : s.runningCount = 0
  · rw [State.flagged_stages_idle hnone, s.beginFlush_none hnone]
    simp [hnone]
  · simp [s.beginFlush_some hnone, hnone, raiseFlush_eq]

theorem execKFlush_running {s : State} (h : s.ctrl.pstate = .running) : exec .kFlush s = .next s.beginFlush.okay :=
  congrArg _ (if_pos h)

/-- Settles O53: the two branches of the flush, the count taken over the stages' records. -/
theorem controllerFlush : Obligations.ControllerFlush := by
  intro s n
  have hn : s.runningCount = n := s.runningCount_eq
  refine ⟨fun h => congrArg _ (if_neg h), fun hrun hnone => ?_, fun hrun hsome => ?_⟩
  · rw [execKFlush_running hrun, s.beginFlush_none (hn.trans hnone)]
    rfl
  · rw [execKFlush_running hrun, s.beginFlush_some (hn.trans_ne hsome), hn]
    simp only [raiseFlush_eq]
    rfl

/-! ## The exception (R293) -/

/-- Settles O55: the meaning of the command is the operation Writeback calls, which reads neither operand. -/
theorem controllerException : Obligations.ControllerException := by
  intro vector pc s raised
  have hdecode : decodePacket (plainPacket 0x5300 vector pc) = .ok (.kException vector pc) := by
    simp [plainPacket, decodePacket, decodeCtrlUnit, whenMod]
  exact ⟨hdecode, rfl, fun _ => rfl⟩

/-! ## The progress step (R287) -/

section
variable {s u : State}

theorem State.advance_starting (h : s.ctrl.pstate = .starting) (hall : ∀ id, (s.stages.get id).life = .running) :
    s.advance = some (s.setPState .running) := by simp [State.advance, h, (s.allLife_iff .running).mpr hall]

theorem State.advance_stopping (h : s.ctrl.pstate = .stopping) (hall : ∀ id, (s.stages.get id).life = .stopped) :
    s.advance = some (s.setPState .stopped) := by simp [State.advance, h, (s.allLife_iff .stopped).mpr hall]

theorem State.advance_exception (h : s.ctrl.pstate = .exception) : s.advance = some s.recover := by simp [State.advance, h]

/-- What the progress step can be: one of the two transitions that wait for the stages, or the recovery (R287). -/
theorem State.advance_cases (h : s.advance = some u) :
    (s.ctrl.pstate = .starting ∧ u = s.setPState .running) ∨ (s.ctrl.pstate = .stopping ∧ u = s.setPState .stopped) ∨
      (s.ctrl.pstate = .exception ∧ u = s.recover) := by
  rcases s.advance_isSome_iff.mp (Option.isSome_of_eq_some h) with ⟨hp, hall⟩ | ⟨hp, hall⟩ | hp
  · exact .inl ⟨hp, Option.some.inj (h.symm.trans (State.advance_starting hp hall))⟩
  · exact .inr (.inl ⟨hp, Option.some.inj (h.symm.trans (State.advance_stopping hp hall))⟩)
  · exact .inr (.inr ⟨hp, Option.some.inj (h.symm.trans (State.advance_exception hp))⟩)

theorem execKAdvance_some (h : s.advance = some u) : exec .kAdvance s = .next u.okay := by
  have hexec : exec .kAdvance s = execKAdvance s := rfl
  rw [hexec, execKAdvance, h]

theorem execKAdvance_none (h : s.advance = none) : exec .kAdvance s = .next (s.refuse .errState) := by
  have hexec : exec .kAdvance s = execKAdvance s := rfl
  rw [hexec, execKAdvance, h]

end

/-- Settles O56: the two transitions that wait for the stages; elsewhere no progress is enabled. -/
theorem controllerAdvance : Obligations.ControllerAdvance := by
  intro s
  refine ⟨fun hp hall => execKAdvance_some (State.advance_starting hp hall),
    fun hp hall => execKAdvance_some (State.advance_stopping hp hall), fun hwaits => execKAdvance_none ?_⟩
  refine Option.not_isSome_iff_eq_none.mp fun henabled => ?_
  rcases s.advance_isSome_iff.mp henabled with ⟨hp, hall⟩ | ⟨hp, hall⟩ | hp
  · simp [hp, hall] at hwaits
  · simp [hp, hall] at hwaits
  · simp [hp] at hwaits

/-! ## The recovery (R294, R295) -/

/-- What the recovery flushes where the circuit breaker trips: counters, samples and exceptions are forgotten (R294, R295). -/
def State.tripped (s : State) : State :=
  { s with
    stages := ⟨s.stages.f.resetCounters, s.stages.d.resetCounters, s.stages.e.resetCounters, s.stages.w.resetCounters⟩
    ctrl := { s.ctrl with excTicks := [], utilSamples := ⟨[], [], [], []⟩, recovering := true } }

/-- What the recovery flushes where the breaker does not trip: the exceptions of the window are kept (R294). -/
def State.untripped (s : State) : State :=
  { s with ctrl := { s.ctrl with excTicks := s.recentTicks, recovering := true } }

/-- The recovery is a flush, after the circuit breaker has had its say (R294). -/
theorem State.recover_eq (s : State) :
    s.recover = (if s.cfg.excFreqThreshold < s.recentTicks.length then s.tripped else s.untripped).beginFlush := by
  unfold State.recover
  simp only
  split <;> rfl

/-- No lifecycle is touched before the flush. -/
theorem State.tripped_runningCount (s : State) : s.tripped.runningCount = s.runningCount :=
  State.runningCount_congr fun id => by cases id <;> rfl

/-- Settles O57: the flush of the recovery, from the state the circuit breaker leaves. -/
theorem exceptionRecovery : Obligations.ExceptionRecovery := by
  intro s hp recent breaker count n
  have hexec := execKAdvance_some (State.advance_exception hp)
  have hn : s.runningCount = n := s.runningCount_eq
  rw [s.recover_eq] at hexec
  by_cases htrips : s.cfg.excFreqThreshold < s.recentTicks.length
  · rw [if_pos htrips, State.beginFlush_eq, s.tripped_runningCount, hn] at hexec
    exact ⟨_, hexec, rfl, rfl, rfl, rfl, fun _ => ⟨rfl, rfl, fun id => by cases id <;> rfl⟩,
      fun hkept => absurd htrips hkept, rfl⟩
  · have hcount : s.untripped.runningCount = n := hn
    rw [if_neg htrips, State.beginFlush_eq, hcount] at hexec
    exact ⟨_, hexec, rfl, rfl, rfl, rfl, fun htripped => absurd htripped htrips,
      fun _ => ⟨rfl, rfl, fun id => by cases id <;> rfl⟩, rfl⟩

/-! ## The transition table (R285) -/

theorem PState.mayBecome.of_eq {p q : PState} (h : q = p) : p.mayBecome q := .inl h.symm

/-- An acknowledgement ends a flush, or leaves the controller where it is (R291, R292). -/
theorem CtrlState.flushAck_mayBecome (k : CtrlState) : k.pstate.mayBecome k.flushAck.pstate := by
  rw [k.flushAck_eq]
  split
  · exact .of_eq rfl
  · split
    · simp [PState.mayBecome, ‹k.pstate = _ ∧ _›]
    · exact .of_eq rfl

section
variable {s t : State}

/-- A flush is begun from Running, or on the way out of an exception (R290, R294). -/
theorem State.beginFlush_mayBecome (h : s.ctrl.pstate = .running ∨ s.ctrl.pstate = .exception) :
    s.ctrl.pstate.mayBecome s.beginFlush.ctrl.pstate := by
  rw [s.beginFlush_eq]
  rcases h with hp | hp <;> by_cases hnone : s.runningCount = 0 <;> simp [PState.mayBecome, hp, hnone]

theorem State.recover_mayBecome (h : s.ctrl.pstate = .exception) : s.ctrl.pstate.mayBecome s.recover.ctrl.pstate := by
  have hflushed {u : State} (hu : u.ctrl.pstate = s.ctrl.pstate) : s.ctrl.pstate.mayBecome u.beginFlush.ctrl.pstate :=
    hu ▸ State.beginFlush_mayBecome (.inr (hu.trans h))
  rw [s.recover_eq]
  split
  · exact hflushed rfl
  · exact hflushed rfl

theorem State.advance_mayBecome (h : s.advance = some t) : s.ctrl.pstate.mayBecome t.ctrl.pstate := by
  rcases State.advance_cases h with ⟨hp, rfl⟩ | ⟨hp, rfl⟩ | ⟨hp, rfl⟩
  · simp [PState.mayBecome, hp]
  · simp [PState.mayBecome, hp]
  · exact State.recover_mayBecome hp

theorem State.controllerException_mayBecome (s : State) (v : Nat) (pc : Word) :
    s.ctrl.pstate.mayBecome (s.controllerException v pc).ctrl.pstate := by
  by_cases hrun : s.ctrl.pstate = .running <;> simp [PState.mayBecome, State.controllerException, hrun]

/-! ## The controller under the stages' workers -/

theorem State.controllerBranch_mayBecome (h : t.ctrl = s.ctrl) (pc target : Word) :
    s.ctrl.pstate.mayBecome (t.controllerBranch pc target).ctrl.pstate := by
  rw [← h]
  by_cases hflush : target ≠ pc + 4 ∧ t.ctrl.pstate = .running
  · have hbegun : t.controllerBranch pc target = t.beginFlush := if_pos hflush
    rw [hbegun]
    exact State.beginFlush_mayBecome (.inl hflush.2)
  · rw [State.controllerBranch_ignored hflush]
    exact .of_eq rfl

theorem State.resolveBranch_mayBecome (s : State) (r : InstrRecord) :
    s.ctrl.pstate.mayBecome (s.resolveBranch r).ctrl.pstate := by
  cases htaken : branchTaken r with
  | true =>
    rw [State.resolveBranch_taken _ htaken]
    exact State.controllerBranch_mayBecome (by rfl) r.pc _
  | false =>
    rw [State.resolveBranch_not_taken _ htaken]
    exact .of_eq rfl

/-- Of a commit only the branch reaches the controller (R298). -/
theorem State.commit_mayBecome (s : State) (r : InstrRecord) : s.ctrl.pstate.mayBecome (s.commit r).ctrl.pstate := by
  have hloaded : (s.loaded r).ctrl = s.ctrl := rfl
  rw [s.commit_eq, ← hloaded]
  simp only
  split
  · exact State.resolveBranch_mayBecome _ r
  · exact .of_eq rfl

theorem State.writeback_mayBecome (s : State) (r : InstrRecord) : s.ctrl.pstate.mayBecome (s.writeback r).ctrl.pstate := by
  unfold State.writeback
  split
  · split
    · exact State.controllerException_mayBecome _ r.excVector r.pc
    · exact s.commit_mayBecome r
  · exact .of_eq rfl

/-- A worker's iteration leaves the controller as it was, acknowledges a flush, or leaves it as the stage's `process` does
(R174 to R177). -/
theorem State.iterate_ctrl (s : State) (id : StageId) (p : Process) :
    (s.iterate id p).ctrl = s.ctrl ∨ (s.iterate id p).ctrl = s.ctrl.flushAck ∨
      ∃ r u, u.ctrl = s.ctrl ∧ (s.iterate id p).ctrl = (p r u).2.ctrl := by
  unfold State.iterate
  split
  · exact .inr (.inl (by rw [s.flushHere_eq]))
  · split
    · exact .inl (by simp)
    · rename_i r _ _
      refine .inr (.inr ⟨r, (s.dequeue id).draw.2, by simp, ?_⟩)
      unfold State.work
      simp only
      split <;> simp_all

theorem State.iterate_mayBecome (s : State) (id : StageId) {p : Process}
    (hp : ∀ r (u : State), u.ctrl.pstate.mayBecome (p r u).2.ctrl.pstate) :
    s.ctrl.pstate.mayBecome (s.iterate id p).ctrl.pstate := by
  rcases s.iterate_ctrl id p with h | h | ⟨r, u, hu, h⟩
  · exact .of_eq (congrArg _ h)
  · exact h ▸ s.ctrl.flushAck_mayBecome
  · rw [h, ← hu]
    exact hp r u

theorem State.fetchIteration_mayBecome (s : State) : s.ctrl.pstate.mayBecome s.fetchIteration.ctrl.pstate := by
  have hread : (({ s with fetch := s.fetch.applyRedirect } : State).fetchInstruction s.fetch.applyRedirect.nextPC).2.ctrl =
      s.ctrl := by simp
  unfold State.fetchIteration
  split
  · rw [s.fetchFlush_eq]
    exact s.ctrl.flushAck_mayBecome
  · simp only
    split <;> rename_i hres <;> rw [hres] at hread <;> simp only at hread
    · exact .of_eq (by simp [hread])
    · exact .of_eq (by simp [hread])

/-! ## Every instruction -/

theorem State.startAll_pstate (s : State) : s.startAll.ctrl.pstate = .starting := by
  simp [State.startAll, StageId.fromLast]

theorem State.stopAll_pstate (s : State) : s.stopAll.ctrl.pstate = .stopping := by
  simp [State.stopAll, StageId.all]

theorem State.timerTick_pstate (s : State) : s.timerTick.ctrl.pstate = s.ctrl.pstate := by
  rw [s.timerTick_eq]
  split
  · simp [StageId.all, State.ticked]
  · rfl

theorem State.Does.mayBecome (h : s.Does t) : s.ctrl.pstate.mayBecome t.ctrl.pstate := by
  cases h with
  | nothing | read | write | writeBackAll | dropLines | setPC | flag => exact .of_eq rfl
  | redirect h =>
    obtain ⟨-, rfl⟩ := State.redirect_eq_some h
    exact .of_eq rfl
  | init | start | submit | resize | shutdown => exact .of_eq (by simp)
  | fetch => exact s.fetchIteration_mayBecome
  | decode _ hp =>
    exact s.iterate_mayBecome .d fun r u =>
      .of_eq (hp.keeps (P := fun v => v.ctrl.pstate = u.ctrl.pstate) r u rfl)
  | execute =>
    refine s.iterate_mayBecome .e fun r u => ?_
    obtain ⟨-, -, -, -, hctrl, -⟩ := processE_frame u r
    exact .of_eq (congrArg _ hctrl)
  | writeback => exact s.iterate_mayBecome .w fun r u => u.writeback_mayBecome r
  | completeHeavy =>
    exact .of_eq (by simp [State.completeHeavy, executeInline_frame])
  | startAll h =>
    rw [h, s.startAll_pstate]
    simp [PState.mayBecome]
  | stopAll h =>
    rw [h, s.stopAll_pstate]
    simp [PState.mayBecome]
  | beginFlush h => exact State.beginFlush_mayBecome (.inl h)
  | exception v pc => exact s.controllerException_mayBecome v pc
  | tick => exact .of_eq s.timerTick_pstate
  | advance h => exact State.advance_mayBecome h

end

/-- Settles O17: what an instruction other than `RESET` does takes at most one edge of the table, and its answer none. -/
theorem controllerTransitions : Obligations.ControllerTransitions := by
  intro i s t h
  constructor
  · rintro rfl
    obtain rfl := Host.Outcome.next.inj h
    rfl
  · intro hne
    rcases exec_next_cases h with ⟨u, hdoes, hsame⟩ | ⟨hreset, -⟩
    · obtain ⟨_, _, _, rfl⟩ := hsame
      exact hdoes.mayBecome
    · exact absurd hreset hne

end Sys2Proof.Machine
end
